-- ==== Sys2Proof/Word.lean ====
section
/-! DEFINITION. The word types of the block (spec/00_scope.md R9): 32-bit host registers and 8-bit buffer bytes. -/

namespace Sys2Proof

/-- One byte: a buffer cell, a GF(256) symbol, an opcode or an immediate (R9, R11). -/
abbrev Byte := BitVec 8

/-- One 32-bit host register value or command word (R9). -/
abbrev Word := BitVec 32

end Sys2Proof
end

