-- ==== Sys2Proof/Syntax.lean ====
section
/-! DEFINITION. The command set (spec/30_encoding.md R58), one constructor per row of spec/opcode_table.json. A command's
other operands are registers (R63); the constructors carry only the immediate byte, where the format has one (R55). -/

namespace Sys2Proof

/-- The 19 commands of the opcode map (R58). -/
inductive Instr where
  /-- NOP, 0x00, format C (R107). -/
  | nop
  /-- HDR_PACK, 0x10, format C (R102). -/
  | hdrPack
  /-- HDR_UNPACK, 0x11, format C (R103). -/
  | hdrUnpack
  /-- RAW_SIZE, 0x12, format C (R90). -/
  | rawSize
  /-- SCRAMBLE, 0x20, format C (R76). -/
  | scramble
  /-- DESCRAMBLE, 0x21, format C (R77). -/
  | descramble
  /-- RS_ENCODE, 0x30, format C (R91). -/
  | rsEncode
  /-- RS_DECODE, 0x31, format C (R92). -/
  | rsDecode
  /-- HDR_ENCODE, 0x32, format C (R93). -/
  | hdrEncode
  /-- HDR_DECODE, 0x33, format C (R94). -/
  | hdrDecode
  /-- PAY_ENCODE, 0x34, format C (R95). -/
  | payEncode
  /-- PAY_DECODE, 0x35, format C (R96). -/
  | payDecode
  /-- ENCODE_FRAME, 0x40, format C (R108). -/
  | encodeFrame
  /-- DECODE_FRAME, 0x41, format C (R109). -/
  | decodeFrame
  /-- DECODE_HEADER, 0x42, format C (R110). -/
  | decodeHeader
  /-- PIPE_RESET, 0x50, format C (R140). -/
  | pipeReset
  /-- PIPE_ADD_BYTE, 0x51, format CI: IMM8 is the byte (R141). -/
  | pipeAddByte (imm8 : Byte)
  /-- BARKER_RESET, 0x60, format C (R130). -/
  | barkerReset
  /-- BARKER_STEP, 0x61, format CB: IMM8[0] is the bit, IMM8[7:1] must be 0 (R131). -/
  | barkerStep (imm8 : Byte)
deriving DecidableEq, Repr

end Sys2Proof
end

