-- ==== Sys2Proof/WellFormed.lean ====
section
/-! DEFINITION. The formats of the command word and what each allows in IMM8 (spec/30_encoding.md R55, R56). -/

namespace Sys2Proof

/-- The three named formats (R55). They differ only in which IMM8 bits are legal. -/
inductive Format where
  /-- `C`: no immediate, IMM8 = 0. -/
  | c
  /-- `CI`: an 8-bit immediate. -/
  | ci
  /-- `CB`: a one-bit immediate in IMM8[0]; IMM8[7:1] = 0. -/
  | cb
deriving DecidableEq, Repr

/-- Whether the format allows this IMM8 (R55, R56). -/
def Format.immOk : Format → Byte → Bool
  | .c, imm => imm == 0#8
  | .ci, _ => true
  | .cb, imm => imm.extractLsb' 1 7 == 0#7

/-- Each command's format (R58). -/
def Instr.format : Instr → Format
  | .nop => .c
  | .hdrPack => .c
  | .hdrUnpack => .c
  | .rawSize => .c
  | .scramble => .c
  | .descramble => .c
  | .rsEncode => .c
  | .rsDecode => .c
  | .hdrEncode => .c
  | .hdrDecode => .c
  | .payEncode => .c
  | .payDecode => .c
  | .encodeFrame => .c
  | .decodeFrame => .c
  | .decodeHeader => .c
  | .pipeReset => .c
  | .pipeAddByte _ => .ci
  | .barkerReset => .c
  | .barkerStep _ => .cb

/-- The IMM8 byte of the command's word: 0 for a command without an immediate (R55). -/
def Instr.imm8 : Instr → Byte
  | .nop => 0#8
  | .hdrPack => 0#8
  | .hdrUnpack => 0#8
  | .rawSize => 0#8
  | .scramble => 0#8
  | .descramble => 0#8
  | .rsEncode => 0#8
  | .rsDecode => 0#8
  | .hdrEncode => 0#8
  | .hdrDecode => 0#8
  | .payEncode => 0#8
  | .payDecode => 0#8
  | .encodeFrame => 0#8
  | .decodeFrame => 0#8
  | .decodeHeader => 0#8
  | .pipeReset => 0#8
  | .pipeAddByte imm => imm
  | .barkerReset => 0#8
  | .barkerStep imm => imm

/-- A command term is well-formed when its immediate is one its format allows (R55): only BARKER_STEP can fail it. -/
def Instr.wf (i : Instr) : Bool := i.format.immOk i.imm8

end Sys2Proof
end

