-- ==== Sys2Proof/Decode.lean ====
section
/-! DEFINITION. The decoder of the 32-bit command word, total on all 2^32 words and rejecting by name, and the encoder
(spec/30_encoding.md R55, R56, R58). -/

namespace Sys2Proof

/-- Why a command word is illegal (R56). Every one of them completes with `E_ILLEGAL`. -/
inductive DecodeError where
  /-- RSVD, bits [31:16], is nonzero. -/
  | reservedNonzero
  /-- OPC is not in the opcode map of R58. -/
  | unknownOpcode
  /-- Format C with a nonzero IMM8. -/
  | immediateNotAllowed
  /-- Format CB with a nonzero IMM8[7:1]. -/
  | immediateTooWide
deriving DecidableEq, Repr

/-- OPC, bits [7:0] of a command word (R55). -/
def opcField (w : Word) : Byte := w.extractLsb' 0 8

/-- IMM8, bits [15:8] of a command word (R55). -/
def immField (w : Word) : Byte := w.extractLsb' 8 8

/-- RSVD, bits [31:16] of a command word (R55). -/
def rsvdField (w : Word) : BitVec 16 := w.extractLsb' 16 16

/-- The opcode map (R58): the command an OPC stands for, with the immediate it would carry. -/
def commandOf (opc imm : Byte) : Option Instr :=
  match opc.toNat with
  | 0x00 => some .nop
  | 0x10 => some .hdrPack
  | 0x11 => some .hdrUnpack
  | 0x12 => some .rawSize
  | 0x20 => some .scramble
  | 0x21 => some .descramble
  | 0x30 => some .rsEncode
  | 0x31 => some .rsDecode
  | 0x32 => some .hdrEncode
  | 0x33 => some .hdrDecode
  | 0x34 => some .payEncode
  | 0x35 => some .payDecode
  | 0x40 => some .encodeFrame
  | 0x41 => some .decodeFrame
  | 0x42 => some .decodeHeader
  | 0x50 => some .pipeReset
  | 0x51 => some (.pipeAddByte imm)
  | 0x60 => some .barkerReset
  | 0x61 => some (.barkerStep imm)
  | _ => none

/-- The name under which a format refuses an immediate (R56). -/
def Format.immError : Format → DecodeError
  | .c => .immediateNotAllowed
  | .ci => .immediateNotAllowed
  | .cb => .immediateTooWide

/-- Decode one command word (R55, R56, R58). -/
def decode (w : Word) : Except DecodeError Instr :=
  if rsvdField w ≠ 0#16 then .error .reservedNonzero
  else
    match commandOf (opcField w) (immField w) with
    | none => .error .unknownOpcode
    | some i => if i.format.immOk (immField w) then .ok i else .error i.format.immError

/-- Each command's OPC (R58). -/
def Instr.opcode : Instr → Byte
  | .nop => 0x00#8
  | .hdrPack => 0x10#8
  | .hdrUnpack => 0x11#8
  | .rawSize => 0x12#8
  | .scramble => 0x20#8
  | .descramble => 0x21#8
  | .rsEncode => 0x30#8
  | .rsDecode => 0x31#8
  | .hdrEncode => 0x32#8
  | .hdrDecode => 0x33#8
  | .payEncode => 0x34#8
  | .payDecode => 0x35#8
  | .encodeFrame => 0x40#8
  | .decodeFrame => 0x41#8
  | .decodeHeader => 0x42#8
  | .pipeReset => 0x50#8
  | .pipeAddByte _ => 0x51#8
  | .barkerReset => 0x60#8
  | .barkerStep _ => 0x61#8

/-- The command word of a well-formed command: `OPC | (IMM8 << 8)`, RSVD = 0 (R55). -/
def encode (i : Instr) : Word := 0#16 ++ i.imm8 ++ i.opcode

/-- The bits of the word that a format fixes (R58's match and mask). -/
def Format.mask : Format → Word
  | .c => 0xFFFFFFFF#32
  | .ci => 0xFFFF00FF#32
  | .cb => 0xFFFFFEFF#32

/-- The row of R58 as a match value: OPC with every other fixed bit 0. -/
def Instr.matchWord (i : Instr) : Word := 0#24 ++ i.opcode

/-- The command the decoder reads from a table word: a command is exactly one 32-bit word, written whole to CMD, so the
bits the table numbers are the word's bits (R55). -/
def decodeTableWord (nbits w : Nat) : Option Instr :=
  match decode (BitVec.ofNat 32 (w % 2 ^ nbits)) with
  | .ok i => some i
  | .error _ => none

end Sys2Proof
end

