-- ==== Sys2Proof/Config.lean ====
section
/-! DEFINITION. What a model instance fixes (spec/00_scope.md R7, R8; spec/45_detector.md R115) and the free values.
A constant with a body is a number the spec states or a parameter's spec default; a constant without one is OPEN: nothing
can be proved about its value. -/

namespace Sys2Proof

/-- One sample, as the integer code the sampler delivers. The spec leaves `Sample` OPEN (R8, D18); only the opaque
functions of `Config.dsp` ever look inside a window, so any countable sample type, real or complex, fits (log 3). -/
abbrev Sample := Int

/-- A window: consecutive samples, the unit the receive datapath consumes (R14, R114). -/
abbrev Window := List Sample

/-- The number type `Num` of the signal processing, in which sums and products are exact (R115). -/
abbrev Num := Rat

/-- The OPEN signal-processing functions of one model instance (R115): only their types and roles are fixed. -/
structure Dsp where
  /-- `W`: samples per window. -/
  width : Nat
  /-- `COH(w)`: coherence of the window against the carrier, in units of 1/65536, from 0 to 65536. -/
  coh : Window → Fin 65537
  /-- `BPF(w)[n]`: the band-pass-filtered value at sample n. -/
  bpf : Window → Nat → Num
  /-- `MF(w)[n]`: the matched-filtered value at sample n. -/
  mf : Window → Nat → Num
  /-- `GAIN_Q(v)`: quantisation of the gain estimate. -/
  gainQ : Num → BitVec 32
deriving Inhabited

namespace Config

/-! ### Fixed constants (R7, R9) -/

/-- `HDR_LEN`: packed header length in bytes (R7). -/
def hdrLen : Nat := 32
/-- `HDR_RAW`: header codeword length (R7). -/
def hdrRaw : Nat := 64
/-- `HDR_ECC = HDR_RAW - HDR_LEN` (R7). -/
def hdrEcc : Nat := 32
/-- `BLOCK_DIV`: divisor of the block count (R7). -/
def blockDiv : Nat := 205
/-- `RS_NMAX`: maximum codeword length (R7). -/
def rsNMax : Nat := 255
/-- `MAX_PAYLOAD` (R7). -/
def maxPayload : Nat := 1023
/-- `PRIME`: priming and flush bits of the scrambler (R7, C3). -/
def prime : Nat := 5
/-- `BUF_SIZE`: buffer RAM bytes (R8, D4). -/
def bufSize : Nat := 8192

/-! ### Identity (R3, R19) -/

/-- The ID register's constant, ASCII "IRIS" (R19). -/
def idValue : Word := 0x49524953#32
/-- The VERSION register's constant: edition 7, header generation 32 (R19). -/
def versionValue : Word := 0x00070020#32

/-! ### Parameters at their spec defaults (R8, log 11) -/

/-- `TX_INIT`: the scrambler's initial state. -/
def txInit : BitVec 9 := 0x00F#9
/-- `RX_INIT`: the descrambler's initial state. -/
def rxInit : BitVec 9 := 0x1F0#9
/-- `RS_PRIM = 0x11D` without its leading term z^8: what z^8 reduces to (R78). -/
def rsPrimLow : Byte := 0x1D#8
/-- `RS_ALPHA`: the primitive element (R78). -/
def rsAlpha : Byte := 0x02#8
/-- `RS_FCR`: first consecutive root exponent (R79). -/
def rsFcr : Nat := 0
/-- `BARKER_SEQ`, index 0 first; its length is `BARKER_LEN = 13` (R8, D16). -/
def barkerSeq : List Bool :=
  [true, true, true, true, true, false, false, true, true, false, true, false, true]
/-- `BARKER_RETEST`: whether a mismatching input is tested again against state 0 (R8, C9). -/
def barkerRetest : Bool := false
/-- `P_COH_THRESH_RST`: 0.75 in units of 1/65536 (R8, D20). -/
def cohThreshRst : BitVec 16 := 0xC000#16

/-! ### OPEN reset parameters (R8, U7): the spec gives no value; DESIGN CHOICE zero, unsafe (log 2) -/

/-- `P_CARRIER_THRESHOLD_RST` (log 2). -/
def carrierThresholdRst : BitVec 16 := 0#16
/-- `P_MAX_OFFSET_RST` (log 2). -/
def maxOffsetRst : BitVec 32 := 0#32
/-- `P_BARKER_MAX_RST` (log 2). -/
def barkerMaxRst : BitVec 32 := 0#32
/-- `P_SEP_SYMBOLS_RST` (log 2). -/
def sepSymbolsRst : BitVec 16 := 0#16
/-- `P_GAIN_SKIP_RST` (log 2). -/
def gainSkipRst : BitVec 32 := 0#32

/-! ### Free values: constants without a body -/

/-- The signal-processing functions of the instance (R115, U5): OPEN, so every claim about the block holds for every DSP. -/
opaque dsp : Dsp

/-- The n-th `draw` of one byte: a byte of a payload block whose RS decode failed (R89, U1), or a BUF_RD while BUSY (R156, U3). -/
opaque freeByte : Nat → Byte

/-- The n-th `draw` of one register value: a REG_RD of a non-control register while BUSY (R156, U3). -/
opaque freeWord : Nat → Word

end Config

end Sys2Proof
end

