-- ==== Sys2Proof/Machine/State.lean ====
section
/-! DEFINITION. The block's whole state as plain data (spec/10_state.md R15, R18, R37), the queue of agents' steps that
the environment schedules (R50, R142), the reasons a step can stop, and the state after power-on reset (R152). -/

namespace Sys2Proof.Machine

/-- The buffer RAM (R39) with its written-mask (R37, R41): a byte is listed exactly when it has been written, so an
unlisted address reads as no value (log 6). Addresses rise strictly and lie in the 8192 bytes (`Memory.wf`). -/
abbrev Memory := List Host.Cell

/-- The STATUS flags (R22). BUSY is not stored: PENDING is non-empty exactly when BUSY = 1 (R37, log 14). -/
structure Status where
  /-- Bit 1, FAULT: a contract-class result or bus fault happened since reset. -/
  fault : Bool
  /-- Bit 2, PAYLOAD_OK: every block of the last payload decode decoded. -/
  payloadOk : Bool
  /-- Bit 3, PIPE_HDR_KNOWN: the pipe decoded its frame's header. -/
  pipeHdrKnown : Bool
  /-- Bit 4, BARKER_FOUND: the Moore machine's last input completed the pattern. -/
  barkerFound : Bool
  /-- Bit 5, PIPE_DONE: the last pipe byte completed a frame. -/
  pipeDone : Bool
deriving DecidableEq, Repr

/-- RESULT (R23): bits [15:8] and [7:0]. -/
structure ResultReg where
  /-- OPC: the last completed command's opcode. -/
  opc : Byte
  /-- CODE: its result code. -/
  code : Byte
deriving DecidableEq, Repr

/-- FAULT_INFO (R25): the first fault since reset. -/
structure FaultInfo where
  /-- ORIGIN: the faulting command's opcode, 0xFF for a bus access. -/
  origin : Byte
  /-- CODE: the contract-class code. -/
  code : Byte
deriving DecidableEq, Repr

/-- The argument registers (R26), each at its field's width. -/
structure ArgRegs where
  /-- ARG_SRC [12:0]. -/
  src : BitVec 13
  /-- ARG_DST [12:0]. -/
  dst : BitVec 13
  /-- ARG_LEN [15:0]. -/
  len : BitVec 16
  /-- ARG_NSYM [7:0]. -/
  nsym : BitVec 8
deriving DecidableEq, Repr

/-- A header record in register form: TXH (R28) or RXH (R29), each register at its implemented width. -/
structure HeaderRegs where
  /-- DST_A: dst_callsign characters 0 to 3, character i in byte lane i. -/
  dstA : BitVec 32
  /-- DST_B: dst_callsign characters 4 and 5. -/
  dstB : BitVec 16
  /-- LSRC_A: link_src_callsign characters 0 to 3. -/
  lsrcA : BitVec 32
  /-- LSRC_B: link_src_callsign characters 4 and 5. -/
  lsrcB : BitVec 16
  /-- SRC_A: src_callsign characters 0 to 3. -/
  srcA : BitVec 32
  /-- SRC_B: src_callsign characters 4 and 5. -/
  srcB : BitVec 16
  /-- FLAGS [11:0]. -/
  flags : BitVec 12
  /-- SIZE: payload_size. -/
  size : BitVec 16
  /-- MY_SEQ. -/
  mySeq : BitVec 16
  /-- DATA01: data[0] in [15:0], data[1] in [31:16]. -/
  data01 : BitVec 32
  /-- DATA23: data[2] in [15:0], data[3] in [31:16]. -/
  data23 : BitVec 32
deriving DecidableEq, Repr

/-- The partition registers (R30). -/
structure PartRegs where
  /-- PART_BLOCKS. -/
  blocks : BitVec 16
  /-- PART_SMALL_LEN. -/
  smallLen : BitVec 16
  /-- PART_LARGE_LEN. -/
  largeLen : BitVec 16
  /-- PART_SMALL_CNT. -/
  smallCnt : BitVec 16
  /-- PART_LARGE_CNT. -/
  largeCnt : BitVec 16
  /-- PART_ECC. -/
  ecc : BitVec 16
  /-- PART_RAW. -/
  raw : BitVec 32
  /-- PART_FLAGS [0]: OVERLONG. -/
  overlong : Bool
  /-- PART_FLAGS [1]: OVERSIZE. -/
  oversize : Bool
deriving DecidableEq, Repr

/-- The codec status registers (R31). -/
structure CodecRegs where
  /-- BLOCK_FAIL [31:0]. -/
  blockFail : BitVec 32
  /-- CORR_HDR [7:0]. -/
  corrHdr : BitVec 8
  /-- CORR_PAY [15:0]. -/
  corrPay : BitVec 16
  /-- CORR_RS [7:0]. -/
  corrRs : BitVec 8
deriving DecidableEq, Repr

/-- The values of RX_STATE (R118). Values 6 and 7 never occur, so they have no constructor. -/
inductive RxState where
  | idle
  | coherenceAccumulating
  | carrierLocked
  | barkerMatching
  | synchronized
  | rxData
deriving DecidableEq, Repr

/-- The receive datapath registers (R33). -/
structure RxRegs where
  /-- RX_STATE. -/
  state : RxState
  /-- COH_COUNT. -/
  cohCount : BitVec 16
  /-- WIN_COUNT. -/
  winCount : BitVec 32
  /-- BARKER_STATE. -/
  barkerState : BitVec 5
  /-- BARKER_COUNT. -/
  barkerCount : BitVec 32
  /-- SEP_REMAINING. -/
  sepRemaining : BitVec 16
  /-- GAIN. -/
  gain : BitVec 32
  /-- BIT_COUNT. -/
  bitCount : BitVec 3
  /-- SHIFT. -/
  shift : BitVec 8
deriving DecidableEq, Repr

/-- The frame assembler registers (R34). -/
structure PipeRegs where
  /-- PIPE_COUNT. -/
  count : BitVec 16
  /-- PIPE_REMAINING. -/
  remaining : BitVec 16
  /-- PIPE_FRAME_LEN. -/
  frameLen : BitVec 16
  /-- PIPE_RESULT. -/
  result : BitVec 32
deriving DecidableEq, Repr

/-- The configuration registers (R35). -/
structure CfgRegs where
  /-- CFG_COH_THRESH. -/
  cohThresh : BitVec 16
  /-- CFG_CARRIER_THRESHOLD. -/
  carrierThreshold : BitVec 16
  /-- CFG_MAX_OFFSET. -/
  maxOffset : BitVec 32
  /-- CFG_BARKER_MAX. -/
  barkerMax : BitVec 32
  /-- CFG_SEP_SYMBOLS. -/
  sepSymbols : BitVec 16
  /-- CFG_GAIN_SKIP: SKIP_FIRST in [15:0], SKIP_LAST in [31:16]. -/
  gainSkip : BitVec 32
deriving DecidableEq, Repr

/-- The four host transactions (R42). -/
inductive Txn where
  /-- REG_RD i. -/
  | regRd (i : BitVec 8)
  /-- REG_WR i, v. -/
  | regWr (i : BitVec 8) (v : Word)
  /-- BUF_RD a. -/
  | bufRd (a : BitVec 13)
  /-- BUF_WR a, b. -/
  | bufWr (a : BitVec 13) (b : Byte)
deriving DecidableEq, Repr

/-- One atomic step the environment schedules (R50, R142): which agent moves, and with what input. -/
inductive Turn where
  /-- HOST: one bus transaction. -/
  | host (t : Txn)
  /-- CU: execute the pending command, if there is one (R61). -/
  | cu
  /-- RX: consume one element (w, sq) of the window stream (R114). -/
  | window (w : Window) (sq : Bool)
deriving DecidableEq, Repr

/-- What a host read returned (R42): 32 bits for REG_RD, 8 bits for BUF_RD. -/
inductive BusData where
  | reg (v : Word)
  | buf (b : Byte)
deriving DecidableEq, Repr

/-- The block's state. The last three fields are the MODEL's own, not the spec's (log 1, log 4, log 5). -/
structure State where
  /-- CTRL [0], RX_EN (R20). SOFT_RESET reads 0 and is not stored. -/
  rxEn : Bool
  /-- CMD: the last value written (R21). -/
  cmd : Word
  /-- STATUS but for BUSY (R22). -/
  status : Status
  /-- RESULT (R23). -/
  result : ResultReg
  /-- EVENT [10:0] (R24). -/
  event : BitVec 11
  /-- IRQ_EN [10:0] (R24). -/
  irqEn : BitVec 11
  /-- FAULT_INFO (R25). -/
  faultInfo : FaultInfo
  /-- ARG_SRC, ARG_DST, ARG_LEN, ARG_NSYM (R26). -/
  args : ArgRegs
  /-- TX_FRAME_LEN [15:0] (R27). -/
  txFrameLen : BitVec 16
  /-- TXH (R28). -/
  txh : HeaderRegs
  /-- RXH (R29). -/
  rxh : HeaderRegs
  /-- PART_* (R30). -/
  part : PartRegs
  /-- BLOCK_FAIL, CORR_* (R31). -/
  codec : CodecRegs
  /-- LFSR_TX [8:0] (R32). -/
  lfsrTx : BitVec 9
  /-- LFSR_RX [8:0] (R32). -/
  lfsrRx : BitVec 9
  /-- RX_STATE to SHIFT (R33). -/
  rx : RxRegs
  /-- PIPE_* (R34). -/
  pipe : PipeRegs
  /-- CFG_* (R35). -/
  cfg : CfgRegs
  /-- PENDING: the latched command word (R37); STATUS.BUSY is its presence. -/
  pending : Option Word
  /-- PREV: the phase reference window, or absent (R37). -/
  prev : Option Window
  /-- The buffer RAM and its written-mask (R37, R39). -/
  mem : Memory
  /-- The RX input stream position: the index of the next window (R37). -/
  rxPos : Nat
  /-- MODEL: the agents' steps still to come, first one first (log 1). -/
  inputs : List Turn
  /-- MODEL: what the last host read returned (log 4). -/
  busOut : Option BusData
  /-- MODEL: how many free values (draws) have been taken (log 5). -/
  draws : Nat
deriving DecidableEq, Repr

/-- Why a step stops. None is an architectural fault of the block: R144's faults are recorded in registers and the
machine goes on. All three are safe: the hardware would go on. -/
inductive Fault where
  /-- UNINIT_READ (R41): a BUF_RD or a command input reached a byte nothing has written. Raised by `hostStep`, by every
  command with a source region, and by the pipe. Safe. -/
  | uninitRead
  /-- The pipe's next byte would lie outside the buffer (R39). Raised by `pipeAdd` only when PIPE_COUNT is 4096 or more,
  which R136 says no run reaches (log 9). Safe. -/
  | outsideBuffer
  /-- A bit decision was asked for with PREV absent. Raised by the receive step only in states that R132 says no run
  reaches (log 9). Safe. -/
  | noPhaseReference
deriving DecidableEq, Repr

/-- Why an instruction has no meaning. -/
inductive Refusal where
  /-- The instruction is not modelled. Raised by no arm of `exec`: every command has its meaning. Safe. -/
  | notModelled (mnemonic : String)
deriving DecidableEq, Repr

/-! ### The state after reset (R18, R152) -/

/-- A header record of zeros (R28, R29). -/
def HeaderRegs.zero : HeaderRegs :=
  ⟨0#32, 0#16, 0#32, 0#16, 0#32, 0#16, 0#12, 0#16, 0#16, 0#32, 0#32⟩

/-- The partition of L = 0 (R30). -/
def PartRegs.zero : PartRegs := ⟨0#16, 0#16, 0#16, 0#16, 0#16, 0#16, 0#32, false, false⟩

/-- The codec status at reset (R31). -/
def CodecRegs.zero : CodecRegs := ⟨0#32, 0#8, 0#16, 0#8⟩

/-- The receive registers at reset and after `rxReset` (R33, R119). -/
def RxRegs.zero : RxRegs := ⟨.idle, 0#16, 0#32, 0#5, 0#32, 0#16, 0#32, 0#3, 0#8⟩

/-- The pipe registers at reset (R34). -/
def PipeRegs.zero : PipeRegs := ⟨0#16, 0#16, 0#16, 0#32⟩

/-- The configuration registers at their `P_*_RST` parameters (R35). -/
def CfgRegs.atReset : CfgRegs :=
  ⟨Config.cohThreshRst, Config.carrierThresholdRst, Config.maxOffsetRst, Config.barkerMaxRst, Config.sepSymbolsRst,
    Config.gainSkipRst⟩

/-- The state after power-on reset (R152): every register at its R18 value, PENDING empty, PREV absent, stream position 0,
no buffer byte written. Nothing is scheduled and no draw has been taken. -/
def State.reset : State where
  rxEn := false
  cmd := 0#32
  status := ⟨false, false, false, false, false⟩
  result := ⟨0#8, 0#8⟩
  event := 0#11
  irqEn := 0#11
  faultInfo := ⟨0#8, 0#8⟩
  args := ⟨0#13, 0#13, 0#16, 0#8⟩
  txFrameLen := 0#16
  txh := .zero
  rxh := .zero
  part := .zero
  codec := .zero
  lfsrTx := Config.txInit
  lfsrRx := Config.rxInit
  rx := .zero
  pipe := .zero
  cfg := .atReset
  pending := none
  prev := none
  mem := []
  rxPos := 0
  inputs := []
  busOut := none
  draws := 0

end Sys2Proof.Machine
end

