-- ==== Sys2Proof/Machine/Ops.lean ====
section
/-! DEFINITION. The named operations over memory, events, faults and command completion that every meaning uses
(spec/20_memory.md R39 to R44, spec/60_exceptions.md R143, R144, spec/30_encoding.md R61). -/

namespace Sys2Proof.Machine

/-! ### The buffer RAM -/

/-- One byte of the buffer: no value where nothing has written it (R41). -/
def Memory.read : Memory → Nat → Option Byte
  | [], _ => none
  | (b, v) :: m, a => if a = b then some v else Memory.read m a

/-- Write one byte and mark it written (R42), keeping the addresses strictly rising. -/
def Memory.write : Memory → Nat → Byte → Memory
  | [], a, v => [(a, v)]
  | (b, u) :: m, a, v =>
    if a < b then (a, v) :: (b, u) :: m
    else if a = b then (a, v) :: m
    else (b, u) :: Memory.write m a v

/-- `MemRead(a, n)` (R12): n bytes from a, or nothing if one of them has never been written (R41). -/
def Memory.readBytes (m : Memory) : Nat → Nat → Option (List Byte)
  | _, 0 => some []
  | a, n + 1 =>
    match Memory.read m a, Memory.readBytes m (a + 1) n with
    | some b, some bs => some (b :: bs)
    | _, _ => none

/-- `MemWrite(a, n, S)` (R12): the bytes of S at a, a+1, ... -/
def Memory.writeBytes (m : Memory) : Nat → List Byte → Memory
  | _, [] => m
  | a, b :: bs => Memory.writeBytes (Memory.write m a b) (a + 1) bs

/-- Addresses rise strictly from `lo` on and lie inside the buffer. -/
def Memory.sortedFrom : Nat → Memory → Bool
  | _, [] => true
  | lo, (a, _) :: m => decide (lo ≤ a) && decide (a < Config.bufSize) && Memory.sortedFrom (a + 1) m

/-- The canonical form of the buffer: addresses strictly rising, all inside the 8192 bytes (R39). An unlisted address has
no value, so no entry can repeat what an unlisted address reads as. -/
def Memory.wf (m : Memory) : Bool := Memory.sortedFrom 0 m

/-! ### STATUS.BUSY -/

/-- STATUS.BUSY: a command is pending (R22, R37). -/
def State.busy (s : State) : Bool := s.pending.isSome

/-! ### Events (R24) -/

/-- EVENT bit 0, CMD_DONE. -/
def Ev.cmdDone : BitVec 11 := 0x001#11
/-- EVENT bit 1, CMD_ERR. -/
def Ev.cmdErr : BitVec 11 := 0x002#11
/-- EVENT bit 2, FRAME_READY. -/
def Ev.frameReady : BitVec 11 := 0x004#11
/-- EVENT bit 3, HDR_ERR. -/
def Ev.hdrErr : BitVec 11 := 0x008#11
/-- EVENT bit 4, NO_CARRIER. -/
def Ev.noCarrier : BitVec 11 := 0x010#11
/-- EVENT bit 5, NO_SYNC. -/
def Ev.noSync : BitVec 11 := 0x020#11
/-- EVENT bit 6, SQUELCH. -/
def Ev.squelch : BitVec 11 := 0x040#11
/-- EVENT bit 7, CARRIER_LOCK. -/
def Ev.carrierLock : BitVec 11 := 0x080#11
/-- EVENT bit 8, SYNC_FOUND. -/
def Ev.syncFound : BitVec 11 := 0x100#11
/-- EVENT bit 9, RX_OVERRUN. -/
def Ev.rxOverrun : BitVec 11 := 0x200#11
/-- EVENT bit 10, FAULT. -/
def Ev.fault : BitVec 11 := 0x400#11

/-- `emit EVENT.X` (R12): set a sticky event bit; hardware only sets them (R24). -/
def State.emit (s : State) (e : BitVec 11) : State := { s with event := s.event ||| e }

/-! ### Result codes and faults (R143, R144) -/

/-- The result codes of R143, with the two bus-fault codes that appear only in FAULT_INFO. -/
inductive ResultCode where
  | ok
  | rsFail
  | hdrRsFail
  | hdrSizeFail
  | eLength
  | eRange
  | eHops
  | eSize
  | eRsParam
  | eHazard
  | eCmdWhileBusy
  | eWriteWhileBusy
  | eIllegal
deriving DecidableEq, Repr

/-- The code's value (R143). -/
def ResultCode.value : ResultCode → Byte
  | .ok => 0x00#8
  | .rsFail => 0x01#8
  | .hdrRsFail => 0x02#8
  | .hdrSizeFail => 0x03#8
  | .eLength => 0x10#8
  | .eRange => 0x11#8
  | .eHops => 0x12#8
  | .eSize => 0x13#8
  | .eRsParam => 0x14#8
  | .eHazard => 0x15#8
  | .eCmdWhileBusy => 0x16#8
  | .eWriteWhileBusy => 0x17#8
  | .eIllegal => 0x1F#8

/-- Contract class: the codes 0x10 to 0x1F (R143). -/
def ResultCode.isContract : ResultCode → Bool
  | .ok => false
  | .rsFail => false
  | .hdrRsFail => false
  | .hdrSizeFail => false
  | .eLength => true
  | .eRange => true
  | .eHops => true
  | .eSize => true
  | .eRsParam => true
  | .eHazard => true
  | .eCmdWhileBusy => true
  | .eWriteWhileBusy => true
  | .eIllegal => true

/-- `fault(code, origin)` (R144), the block's one fault entry: the first fault since reset is recorded and announced, and
STATUS.FAULT is set. No control is redirected and there is no return from it (R148, log 20). -/
def State.raiseFault (s : State) (code : ResultCode) (origin : Byte) : State :=
  if s.status.fault then s
  else
    { s with
      faultInfo := ⟨origin, code.value⟩
      event := s.event ||| Ev.fault
      status := { s.status with fault := true } }

/-- `bus_fault(code)` (R144): a fault whose origin is a host bus access. -/
def State.busFault (s : State) (code : ResultCode) : State := s.raiseFault code 0xFF#8

/-- The completion of a command (R61): RESULT, PENDING empty (so BUSY = 0), CMD_DONE, CMD_ERR for a code other than OK,
and the fault of a contract-class code. -/
def State.complete (s : State) (opc : Byte) (code : ResultCode) : State :=
  let done : State :=
    { s with
      result := ⟨opc, code.value⟩
      pending := none
      event := (if code = .ok then s.event ||| Ev.cmdDone else s.event ||| Ev.cmdDone ||| Ev.cmdErr) }
  if code.isContract then done.raiseFault code opc else done

/-! ### Free values -/

/-- The next n drawn bytes (R12 `draw`), when `k` draws have been taken. -/
def drawBytes : Nat → Nat → List Byte
  | _, 0 => []
  | k, n + 1 => Config.freeByte k :: drawBytes (k + 1) n

/-! ### Saturating counters -/

/-- Count one up, staying at the register's largest value (R120, log 15). -/
def satSucc {w : Nat} (v : BitVec w) : BitVec w := if v = BitVec.allOnes w then v else v + 1#w

end Sys2Proof.Machine
end

