-- ==== Sys2Proof/Machine/Operands.lean ====
section
/-! DEFINITION. The operand forms of the commands (spec/30_encoding.md R62, R63): buffer regions, the RX-owned regions,
the ordered checks, and the frame every command's execution has (R61). -/

namespace Sys2Proof.Machine

/-! ### Regions -/

/-- A region of n bytes from a is legal when it does not cross the end of the buffer, without wrap-around (R39). -/
def regionOk (a n : Nat) : Bool := decide (a + n ≤ Config.bufSize)

/-- Two regions share a byte; a region of no bytes overlaps nothing (log 19). -/
def regionsOverlap (a n b m : Nat) : Bool :=
  decide (0 < n) && decide (0 < m) && decide (a < b + m) && decide (b < a + n)

/-- Start of PAY_RX (R40). -/
def payRx : Nat := 0x0400
/-- Length of PAY_RX (R40). -/
def payRxLen : Nat := 0x0400
/-- Start of FRAME_RX (R40). -/
def frameRx : Nat := 0x1000
/-- Length of FRAME_RX (R40). -/
def frameRxLen : Nat := 0x0800

/-- The region touches PAY_RX or FRAME_RX, which the RX agent owns while RX_EN = 1 (R40, R157). -/
def touchesRxOwned (a n : Nat) : Bool :=
  regionsOverlap a n payRx payRxLen || regionsOverlap a n frameRx frameRxLen

/-! ### The argument registers as numbers (R26, R63) -/

/-- ARG_SRC as an address. -/
def State.src (s : State) : Nat := s.args.src.toNat
/-- ARG_DST as an address. -/
def State.dst (s : State) : Nat := s.args.dst.toNat
/-- ARG_LEN as a number. -/
def State.len (s : State) : Nat := s.args.len.toNat
/-- ARG_NSYM as a number. -/
def State.nsym (s : State) : Nat := s.args.nsym.toNat

/-! ### The ordered checks (R62) -/

/-- One test of R62: whether it fails, and the code it then gives. -/
abbrev Check := Bool × ResultCode

/-- The first failing test's code (R62). -/
def firstFailure : List Check → Option ResultCode
  | [] => none
  | (fails, code) :: rest => if fails then some code else firstFailure rest

/-- Step 2 of R62 for a command that is not RX-safe (R158). -/
def hazardCheck (s : State) : Check := (s.rxEn, .eHazard)

/-- Step 4 of R62 for one region. -/
def rangeCheck (a n : Nat) : Check := (!regionOk a n, .eRange)

/-- Step 5 of R62: an RX-safe command's destination in an RX-owned region (R158). -/
def destHazardCheck (s : State) (a n : Nat) : Check := (s.rxEn && touchesRxOwned a n, .eHazard)

/-! ### Execution -/

/-- What a command's `execute` gives (R61): a result code with the state it wrote, or a model fault. -/
abbrev Execution := Except Fault (ResultCode × State)

/-- Read a source region: the model fault UNINIT_READ where a byte has never been written (R41). -/
def withBytes (m : Memory) (a n : Nat) (k : List Byte → Execution) : Execution :=
  match Memory.readBytes m a n with
  | none => .error .uninitRead
  | some bytes => k bytes

/-- One command-unit step of a legal command (R61): the checks in order, then `execute`, then completion. A failed check
leaves only the completion's writes; so does a contract-class code from `execute`, whose rule answers the state unchanged (log 16). -/
def runCommand (opc : Byte) (checks : List Check) (execute : Execution) (s : State) :
    Host.Outcome State Fault Refusal :=
  match firstFailure checks with
  | some code => .next (s.complete opc code)
  | none =>
    match execute with
    | .error f => .fault f
    | .ok (code, s') => .next (s'.complete opc code)

end Sys2Proof.Machine
end

