-- ==== Sys2Proof/Machine/Partition.lean ====
section
/-! DEFINITION. The block partition of a payload length (spec/42_rs_codec.md R84 to R87). -/

namespace Sys2Proof.Machine

/-- The block partition of a logical payload length L (R84). -/
structure Partition where
  /-- `block_cnt`. -/
  blockCnt : Nat
  /-- `small_block_len`. -/
  smallLen : Nat
  /-- `large_block_len`. -/
  largeLen : Nat
  /-- `small_block_cnt`. -/
  smallCnt : Nat
  /-- `large_block_cnt`. -/
  largeCnt : Nat
  /-- `ecc_sym_cnt`. -/
  ecc : Nat
deriving DecidableEq, Repr

/-- The formulas of R84; L = 0 short-circuits to no blocks. -/
def partition (len : Nat) : Partition :=
  if len = 0 then ⟨0, 0, 0, 0, 0, 0⟩
  else
    let blockCnt := (len + (Config.blockDiv - 1)) / Config.blockDiv
    let smallLen := len / blockCnt
    let largeCnt := len - blockCnt * smallLen
    { blockCnt := blockCnt
      smallLen := smallLen
      largeLen := smallLen + 1
      smallCnt := blockCnt - largeCnt
      largeCnt := largeCnt
      ecc := smallLen / 5 + 10 }

/-- `raw(L)`, the payload's byte count on the wire (R85). -/
def rawSize (len : Nat) : Nat := len + (partition len).blockCnt * (partition len).ecc

/-- The data lengths of the blocks in wire order: all large blocks, then all small blocks (R84). -/
def blockLens (len : Nat) : List Nat :=
  List.replicate (partition len).largeCnt (partition len).largeLen
    ++ List.replicate (partition len).smallCnt (partition len).smallLen

/-- L is overlong: some block's codeword would exceed RS_NMAX (R87). -/
def overlong (len : Nat) : Bool :=
  decide (1 ≤ len)
    && decide (Config.rsNMax
        < (if 0 < (partition len).largeCnt then (partition len).largeLen else (partition len).smallLen)
            + (partition len).ecc)

/-- L is oversize: above MAX_PAYLOAD (R87). -/
def oversize (len : Nat) : Bool := decide (Config.maxPayload < len)

/-- A length the block refuses to carry: oversize or overlong (R87). -/
def sizeRefused (len : Nat) : Bool := oversize len || overlong len

/-- The PART_* registers for a length (R30, R90). -/
def partRegsOf (len : Nat) : PartRegs where
  blocks := BitVec.ofNat 16 (partition len).blockCnt
  smallLen := BitVec.ofNat 16 (partition len).smallLen
  largeLen := BitVec.ofNat 16 (partition len).largeLen
  smallCnt := BitVec.ofNat 16 (partition len).smallCnt
  largeCnt := BitVec.ofNat 16 (partition len).largeCnt
  ecc := BitVec.ofNat 16 (partition len).ecc
  raw := BitVec.ofNat 32 (rawSize len)
  overlong := overlong len
  oversize := oversize len

end Sys2Proof.Machine
end

