-- ==== Sys2Proof/Machine/Galois.lean ====
section
/-! DEFINITION. GF(256) and polynomials over it (spec/42_rs_codec.md R78, R79). Addition is XOR. -/

namespace Sys2Proof.Machine

/-- Multiplication by z, reduced modulo the field polynomial RS_PRIM (R78). -/
def gfDouble (a : Byte) : Byte :=
  if a.getLsbD 7 then (a <<< 1) ^^^ Config.rsPrimLow else a <<< 1

/-- Field multiplication (R78): Horner's rule over the bits of b, highest first. -/
def gfMul (a b : Byte) : Byte :=
  [7, 6, 5, 4, 3, 2, 1, 0].foldl (fun acc i => gfDouble acc ^^^ (if b.getLsbD i then a else 0#8)) 0#8

/-- Powers. -/
def gfPow (a : Byte) : Nat → Byte
  | 0 => 1#8
  | n + 1 => gfMul (gfPow a n) a

/-- The multiplicative inverse of a nonzero element, as a^254 (R78: the group has order 255). -/
def gfInv (a : Byte) : Byte :=
  let next (x : Byte) : Byte := gfMul (gfMul x x) a
  let x127 := next (next (next (next (next (next a)))))
  gfMul x127 x127

/-- The j-th root of the generator polynomial, `α^(RS_FCR + j)` (R79). -/
def rsRoot (j : Nat) : Byte := gfPow Config.rsAlpha (Config.rsFcr + j)

/-- Termwise XOR of two sequences: polynomial addition of equal lengths. -/
def xorBytes (a b : List Byte) : List Byte := List.zipWith (fun x y => x ^^^ y) a b

/-- Scalar product of two sequences. -/
def gfDot (a b : List Byte) : Byte := (List.zipWith gfMul a b).foldr (fun x acc => x ^^^ acc) 0#8

/-- The value at x of the polynomial whose coefficients are given highest degree first (R79). -/
def polyEval (p : List Byte) (x : Byte) : Byte := p.foldl (fun acc c => gfMul acc x ^^^ c) 0#8

/-- Multiply a polynomial, highest degree first, by (x - r). -/
def polyMulRoot (p : List Byte) (r : Byte) : List Byte := xorBytes (p ++ [0#8]) (0#8 :: p.map (fun c => gfMul c r))

/-- The generator polynomial g(x) for nsym parity symbols, highest degree first (R79). -/
def rsGenerator : Nat → List Byte
  | 0 => [1#8]
  | n + 1 => polyMulRoot (rsGenerator n) (rsRoot n)

end Sys2Proof.Machine
end

