-- ==== Sys2Proof/Machine/ReedSolomon.lean ====
section
/-! DEFINITION. The Reed–Solomon primitive (spec/42_rs_codec.md R79 to R81). The spec fixes the decoder's FUNCTION, not an
algorithm (R81): `rsDec` finds a candidate message by linear algebra and answers OK only after it has encoded the candidate
again and compared (log 7). -/

namespace Sys2Proof.Machine

/-! ### Encoding -/

/-- One step of the division by g(x): shift the next message symbol into the remainder. `gTail` is g without its leading 1. -/
def rsRemStep (gTail rem : List Byte) (b : Byte) : List Byte :=
  match rem with
  | [] => []
  | r :: rs => xorBytes (rs ++ [0#8]) (gTail.map (fun g => gfMul (b ^^^ r) g))

/-- The parity of a message: the coefficients of `(m(x)·x^nsym) mod g(x)`, highest degree first (R80). -/
def rsParity (m : List Byte) (nsym : Nat) : List Byte :=
  m.foldl (rsRemStep (rsGenerator nsym).tail) (List.replicate nsym 0#8)

/-- `RSenc(m, nsym)` (R80): the message followed by its parity. -/
def rsEnc (m : List Byte) (nsym : Nat) : List Byte := m ++ rsParity m nsym

/-! ### Decoding -/

/-- The number of positions where two words differ (R81). -/
def dist : List Byte → List Byte → Nat
  | a :: as, b :: bs => (if a = b then 0 else 1) + dist as bs
  | _, _ => 0

/-- The result of `RSdec` (R81). -/
inductive RsResult where
  /-- OK: the message and the number of corrected symbols. -/
  | ok (d : List Byte) (corrected : Nat)
  /-- FAIL: no codeword lies within t. -/
  | fail
deriving DecidableEq, Repr

/-- The first row whose leading entry is nonzero, and all the other rows. -/
def findPivot : List (List Byte) → Option (List Byte × List (List Byte))
  | [] => none
  | row :: rows =>
    if row.headD 0#8 ≠ 0#8 then some (row, rows)
    else
      match findPivot rows with
      | none => none
      | some (p, rest) => some (p, row :: rest)

/-- Subtract the multiple of the pivot row that clears the leading entry, and drop that entry. -/
def eliminate (pivotTail : List Byte) (inv : Byte) (row : List Byte) : List Byte :=
  xorBytes row.tail (pivotTail.map (fun y => gfMul (gfMul (row.headD 0#8) inv) y))

/-- A nonzero vector of the given length that every row is orthogonal to, if there is one. -/
def nullVector : Nat → List (List Byte) → Option (List Byte)
  | 0, _ => none
  | n + 1, rows =>
    match findPivot rows with
    | none => some (1#8 :: List.replicate n 0#8)
    | some (p, rest) =>
      match nullVector n (rest.map (eliminate p.tail (gfInv (p.headD 0#8)))) with
      | none => none
      | some v => some (gfMul (gfInv (p.headD 0#8)) (gfDot p.tail v) :: v)

/-- The syndromes `r(α^(RS_FCR + j))`, j = 0 .. nsym-1. -/
def syndromes (r : List Byte) (nsym : Nat) : List Byte := (List.range nsym).map (fun j => polyEval r (rsRoot j))

/-- The locators `α^(n-1-i)` of the positions i = 0 .. n-1. -/
def locators : Nat → List Byte
  | 0 => []
  | n + 1 => gfPow Config.rsAlpha n :: locators n

/-- The key equation's rows for an error locator of degree at most t: `Σ_i Λ_i S_(j-i) = 0` for j = t .. nsym-1. `S` is
consumed from its front; the row at j is `S_j, S_(j-1), .., S_(j-t)`. -/
def keyRows (t : Nat) : List Byte → List Byte → List (List Byte)
  | _, [] => []
  | seen, x :: rest =>
    if seen.length < t then keyRows t (x :: seen) rest
    else (x :: seen).take (t + 1) :: keyRows t (x :: seen) rest

/-- Rows `X_1^j, .., X_m^j, S_j` for j = 0, 1, .. over the syndromes S: the linear system of the error values. -/
def valueRows (xs : List Byte) : List Byte → List Byte → List (List Byte)
  | _, [] => []
  | cur, x :: rest => (cur ++ [x]) :: valueRows xs (List.zipWith gfMul cur xs) rest

/-- Spread the values over the marked positions, 0 elsewhere. -/
def scatter : List Bool → List Byte → List Byte
  | [], _ => []
  | true :: ms, v :: vs => v :: scatter ms vs
  | true :: ms, [] => 0#8 :: scatter ms []
  | false :: ms, vs => 0#8 :: scatter ms vs

/-- The error word that the syndromes point to, if the two linear systems have a solution. -/
def errorWord (n nsym : Nat) (synd : List Byte) : Option (List Byte) :=
  match nullVector (nsym / 2 + 1) (keyRows (nsym / 2) [] synd) with
  | none => none
  | some locator =>
    let marks := (locators n).map (fun x => polyEval locator x == 0#8)
    let xs := (locators n).filter (fun x => polyEval locator x == 0#8)
    match nullVector (xs.length + 1) (valueRows xs (xs.map (fun x => gfPow x Config.rsFcr)) synd) with
    | none => none
    | some v =>
      let last := v.getLastD 0#8
      if last = 0#8 then none
      else some (scatter marks ((v.take xs.length).map (fun y => gfMul y (gfInv last))))

/-- `RSdec(r, nsym)` (R81): bounded-distance decoding with t = floor(nsym/2). OK answers a message whose codeword lies
within t of r, with the distance. -/
def rsDec (r : List Byte) (nsym : Nat) : RsResult :=
  let k := r.length - nsym
  if rsEnc (r.take k) nsym = r then .ok (r.take k) 0
  else
    match errorWord r.length nsym (syndromes r nsym) with
    | none => .fail
    | some e =>
      let d := (xorBytes r e).take k
      let c := rsEnc d nsym
      if dist r c ≤ nsym / 2 then .ok d (dist r c) else .fail

end Sys2Proof.Machine
end

