-- ==== Sys2Proof/Machine/Codec.lean ====
section
/-! DEFINITION. The header and payload codecs and the commands RAW_SIZE, RS_ENCODE, RS_DECODE, HDR_ENCODE, HDR_DECODE,
PAY_ENCODE and PAY_DECODE (spec/42_rs_codec.md R83, R88 to R96). -/

namespace Sys2Proof.Machine

/-! ### Header codec (R83) -/

/-- `HdrEnc(h)`. -/
def hdrEnc (h : List Byte) : List Byte := rsEnc h Config.hdrEcc

/-- `HdrDec(r)`. -/
def hdrDec (r : List Byte) : RsResult := rsDec r Config.hdrEcc

/-! ### Payload codec (R88, R89) -/

/-- Encode the blocks of the given data lengths, in wire order. -/
def encBlocks (ecc : Nat) : List Nat → List Byte → List Byte
  | [], _ => []
  | n :: lens, data => rsEnc (data.take n) ecc ++ encBlocks ecc lens (data.drop n)

/-- `PayEnc(P)` (R88). -/
def payEnc (p : List Byte) : List Byte := encBlocks (partition p.length).ecc (blockLens p.length) p

/-- What `PayDec` gives (R89), with the number of draws taken afterwards. -/
structure PayResult where
  /-- Every block decoded. -/
  ok : Bool
  /-- The payload. -/
  data : List Byte
  /-- Bit i set when block i failed. -/
  failMask : Word
  /-- The sum of the corrected symbols over the blocks that decoded. -/
  corr : Nat
  /-- The draw counter afterwards. -/
  draws : Nat
deriving DecidableEq, Repr

/-- Decode the blocks from number i on. A failed block's bytes are drawn, and the others are still attempted (R89). -/
def decBlocks (ecc : Nat) : List Nat → Nat → List Byte → Nat → PayResult
  | [], _, _, k => ⟨true, [], 0#32, 0, k⟩
  | n :: lens, i, wire, k =>
    match rsDec (wire.take (n + ecc)) ecc with
    | .ok d c =>
      let r := decBlocks ecc lens (i + 1) (wire.drop (n + ecc)) k
      ⟨r.ok, d ++ r.data, r.failMask, c + r.corr, r.draws⟩
    | .fail =>
      let r := decBlocks ecc lens (i + 1) (wire.drop (n + ecc)) (k + n)
      ⟨false, drawBytes k n ++ r.data, r.failMask ||| (1#32 <<< i), r.corr, r.draws⟩

/-- `PayDec(R, L)` (R89), when k draws have been taken. -/
def payDec (wire : List Byte) (len k : Nat) : PayResult := decBlocks (partition len).ecc (blockLens len) 0 wire k

/-- The registers a payload decode writes (R30, R31, R96): PART_*, BLOCK_FAIL, CORR_PAY, PAYLOAD_OK. -/
def State.setPayResult (s : State) (len : Nat) (r : PayResult) : State :=
  { s with
    part := partRegsOf len
    codec := { s.codec with blockFail := r.failMask, corrPay := BitVec.ofNat 16 r.corr }
    status := { s.status with payloadOk := r.ok }
    draws := r.draws }

/-! ### Commands -/

/-- RAW_SIZE (R90). Not RX-safe; no parameter or range check. -/
def execRawSize (s : State) : Host.Outcome State Fault Refusal :=
  runCommand (Instr.opcode .rawSize) [hazardCheck s] (.ok (.ok, { s with part := partRegsOf s.len })) s

/-- The parameter range of RS_ENCODE fails: not (1 ≤ k, 1 ≤ nsym, k + nsym ≤ 255) (R91). -/
def rsEncodeParamsBad (k nsym : Nat) : Bool :=
  !(decide (1 ≤ k) && decide (1 ≤ nsym) && decide (k + nsym ≤ Config.rsNMax))

/-- RS_ENCODE (R91). RX-safe. -/
def execRsEncode (s : State) : Host.Outcome State Fault Refusal :=
  runCommand (Instr.opcode .rsEncode)
    [(rsEncodeParamsBad s.len s.nsym, .eRsParam), rangeCheck s.src s.len, rangeCheck s.dst (s.len + s.nsym),
      destHazardCheck s s.dst (s.len + s.nsym)]
    (withBytes s.mem s.src s.len fun input =>
      .ok (.ok, { s with mem := Memory.writeBytes s.mem s.dst (rsEnc input s.nsym) }))
    s

/-- The parameter range of RS_DECODE fails: not (1 ≤ nsym, nsym + 1 ≤ n ≤ 255) (R92). -/
def rsDecodeParamsBad (n nsym : Nat) : Bool :=
  !(decide (1 ≤ nsym) && decide (nsym + 1 ≤ n) && decide (n ≤ Config.rsNMax))

/-- RS_DECODE (R92). Not RX-safe. -/
def execRsDecode (s : State) : Host.Outcome State Fault Refusal :=
  runCommand (Instr.opcode .rsDecode)
    [hazardCheck s, (rsDecodeParamsBad s.len s.nsym, .eRsParam), rangeCheck s.src s.len,
      rangeCheck s.dst (s.len - s.nsym)]
    (withBytes s.mem s.src s.len fun input =>
      match rsDec input s.nsym with
      | .ok d c =>
        .ok (.ok,
          { s with
            mem := Memory.writeBytes s.mem s.dst d
            codec := { s.codec with corrRs := BitVec.ofNat 8 c } })
      | .fail => .ok (.rsFail, s))
    s

/-- HDR_ENCODE (R93). RX-safe. -/
def execHdrEncode (s : State) : Host.Outcome State Fault Refusal :=
  runCommand (Instr.opcode .hdrEncode)
    [rangeCheck s.src Config.hdrLen, rangeCheck s.dst Config.hdrRaw, destHazardCheck s s.dst Config.hdrRaw]
    (withBytes s.mem s.src Config.hdrLen fun input =>
      .ok (.ok, { s with mem := Memory.writeBytes s.mem s.dst (hdrEnc input) }))
    s

/-- HDR_DECODE (R94). Not RX-safe. -/
def execHdrDecode (s : State) : Host.Outcome State Fault Refusal :=
  runCommand (Instr.opcode .hdrDecode) [hazardCheck s, rangeCheck s.src Config.hdrRaw, rangeCheck s.dst Config.hdrLen]
    (withBytes s.mem s.src Config.hdrRaw fun input =>
      match hdrDec input with
      | .ok d c =>
        .ok (.ok,
          { s with
            mem := Memory.writeBytes s.mem s.dst d
            codec := { s.codec with corrHdr := BitVec.ofNat 8 c } })
      | .fail => .ok (.hdrRsFail, s))
    s

/-- PAY_ENCODE (R95). RX-safe. -/
def execPayEncode (s : State) : Host.Outcome State Fault Refusal :=
  runCommand (Instr.opcode .payEncode)
    [(sizeRefused s.len, .eSize), rangeCheck s.src s.len, rangeCheck s.dst (rawSize s.len),
      destHazardCheck s s.dst (rawSize s.len)]
    (withBytes s.mem s.src s.len fun input =>
      .ok (.ok, { s with mem := Memory.writeBytes s.mem s.dst (payEnc input) }))
    s

/-- PAY_DECODE (R96). Not RX-safe. A failed block is no result code. -/
def execPayDecode (s : State) : Host.Outcome State Fault Refusal :=
  runCommand (Instr.opcode .payDecode)
    [hazardCheck s, (sizeRefused s.len, .eSize), rangeCheck s.src (rawSize s.len), rangeCheck s.dst s.len]
    (withBytes s.mem s.src (rawSize s.len) fun input =>
      let r := payDec input s.len s.draws
      .ok (.ok, { s.setPayResult s.len r with mem := Memory.writeBytes s.mem s.dst r.data }))
    s

end Sys2Proof.Machine
end

