-- ==== Sys2Proof/Machine/Header.lean ====
section
/-! DEFINITION. The 32-byte frame header: pack, unpack and the commands HDR_PACK and HDR_UNPACK (spec/43_header.md). -/

namespace Sys2Proof.Machine

/-! ### The FLAGS register (R28) -/

/-- FLAGS[0], REQ_ACK. -/
def HeaderRegs.reqAck (h : HeaderRegs) : Bool := h.flags.getLsbD 0
/-- FLAGS[1], REQ_DOUBLE_ACK. -/
def HeaderRegs.reqDoubleAck (h : HeaderRegs) : Bool := h.flags.getLsbD 1
/-- FLAGS[2], ACK0. -/
def HeaderRegs.ack0 (h : HeaderRegs) : Bool := h.flags.getLsbD 2
/-- FLAGS[3], ACK1. -/
def HeaderRegs.ack1 (h : HeaderRegs) : Bool := h.flags.getLsbD 3
/-- FLAGS[4], ACK2. -/
def HeaderRegs.ack2 (h : HeaderRegs) : Bool := h.flags.getLsbD 4
/-- FLAGS[5], ACK3. -/
def HeaderRegs.ack3 (h : HeaderRegs) : Bool := h.flags.getLsbD 5
/-- FLAGS[6], IS_BEACON. -/
def HeaderRegs.isBeacon (h : HeaderRegs) : Bool := h.flags.getLsbD 6
/-- FLAGS[7], IS_TEXT. -/
def HeaderRegs.isText (h : HeaderRegs) : Bool := h.flags.getLsbD 7
/-- FLAGS[9:8], HOPS. -/
def HeaderRegs.hops (h : HeaderRegs) : BitVec 2 := h.flags.extractLsb' 8 2
/-- FLAGS[11:10], HOPS_REM. -/
def HeaderRegs.hopsRem (h : HeaderRegs) : BitVec 2 := h.flags.extractLsb' 10 2

/-- The FLAGS register from its fields (R28). -/
def flagsOf (reqAck reqDoubleAck ack0 ack1 ack2 ack3 isBeacon isText : Bool) (hops hopsRem : BitVec 2) : BitVec 12 :=
  hopsRem ++ hops ++ BitVec.ofBool isText ++ BitVec.ofBool isBeacon ++ BitVec.ofBool ack3 ++ BitVec.ofBool ack2
    ++ BitVec.ofBool ack1 ++ BitVec.ofBool ack0 ++ BitVec.ofBool reqDoubleAck ++ BitVec.ofBool reqAck

/-- The contract the packing commands check: HOPS_REM ≤ HOPS (R99). -/
def HeaderRegs.hopsBad (h : HeaderRegs) : Bool := decide (h.hops.toNat < h.hopsRem.toNat)

/-! ### The hop code (R98) -/

/-- `enc(h)`: the pair (A, B) as two bits, A the higher. -/
def hopEnc (h : BitVec 2) : BitVec 2 :=
  match h.toNat with
  | 0 => 0b00#2
  | 1 => 0b10#2
  | 2 => 0b11#2
  | _ => 0b01#2

/-- `dec(A, B)`: the inverse of `enc`. -/
def hopDec (c : BitVec 2) : BitVec 2 :=
  match c.toNat with
  | 0 => 0#2
  | 1 => 3#2
  | 2 => 1#2
  | _ => 2#2

/-! ### Pack and unpack -/

/-- Byte lane i of a register: bits [8i+7:8i] (R28, R47). -/
def byteLane {w : Nat} (v : BitVec w) (i : Nat) : Byte := v.extractLsb' (8 * i) 8

/-- A callsign's six characters in order, from its A and B registers (R28). -/
def callsignBytes (a : BitVec 32) (b : BitVec 16) : List Byte :=
  [byteLane a 0, byteLane a 1, byteLane a 2, byteLane a 3, byteLane b 0, byteLane b 1]

/-- A 16-bit value big-endian (R46). -/
def be16 (v : BitVec 16) : List Byte := [v.extractLsb' 8 8, v.extractLsb' 0 8]

/-- Byte 18 of the packed header (R97, R99). -/
def HeaderRegs.byte18 (h : HeaderRegs) : Byte :=
  BitVec.ofBool h.reqDoubleAck ++ BitVec.ofBool h.reqAck ++ BitVec.ofBool h.ack0 ++ BitVec.ofBool h.ack1
    ++ BitVec.ofBool h.ack2 ++ BitVec.ofBool h.ack3 ++ 0#2

/-- Byte 19 of the packed header (R97, R99). -/
def HeaderRegs.byte19 (h : HeaderRegs) : Byte :=
  hopEnc h.hops ++ BitVec.ofBool h.isBeacon ++ BitVec.ofBool h.isText ++ hopEnc h.hopsRem ++ 0#2

/-- The 32 bytes of a record in the wire layout of R97, whatever its hop counts. -/
def packBytes (h : HeaderRegs) : List Byte :=
  callsignBytes h.dstA h.dstB ++ callsignBytes h.lsrcA h.lsrcB ++ callsignBytes h.srcA h.srcB
    ++ [h.byte18, h.byte19] ++ be16 h.size ++ be16 h.mySeq
    ++ be16 (h.data01.extractLsb' 0 16) ++ be16 (h.data01.extractLsb' 16 16)
    ++ be16 (h.data23.extractLsb' 0 16) ++ be16 (h.data23.extractLsb' 16 16)

/-- `pack(H)` (R99): the packed bytes of a record with HOPS_REM ≤ HOPS, and nothing for another record (R101, log 17). -/
def pack (h : HeaderRegs) : Option (List Byte) := if h.hopsBad then none else some (packBytes h)

/-- Run with the packed header; a record that does not pack is E_HOPS (R99). -/
def withPacked (s : State) (k : List Byte → Execution) : Execution :=
  match pack s.txh with
  | none => .ok (.eHops, s)
  | some bytes => k bytes

/-- Byte i of a packed header. -/
def hdrByte (b : List Byte) (i : Nat) : Byte := b.getD i 0#8

/-- The 16-bit value at bytes i (high) and i+1 (R46). -/
def hdrU16 (b : List Byte) (i : Nat) : BitVec 16 := hdrByte b i ++ hdrByte b (i + 1)

/-- The A register of the callsign at byte i: character 0 in bits [7:0] (R28). -/
def hdrCallA (b : List Byte) (i : Nat) : BitVec 32 :=
  hdrByte b (i + 3) ++ hdrByte b (i + 2) ++ hdrByte b (i + 1) ++ hdrByte b i

/-- The B register of the callsign at byte i. -/
def hdrCallB (b : List Byte) (i : Nat) : BitVec 16 := hdrByte b (i + 5) ++ hdrByte b (i + 4)

/-- The FLAGS register from bytes 18 and 19 (R97); their reserved bits [1:0] are ignored (R100). -/
def hdrFlags (b18 b19 : Byte) : BitVec 12 :=
  flagsOf (b18.getLsbD 6) (b18.getLsbD 7) (b18.getLsbD 5) (b18.getLsbD 4) (b18.getLsbD 3) (b18.getLsbD 2)
    (b19.getLsbD 5) (b19.getLsbD 4) (hopDec (b19.extractLsb' 6 2)) (hopDec (b19.extractLsb' 2 2))

/-- `unpack(b)` (R100): total on 32 bytes. -/
def unpack (b : List Byte) : HeaderRegs where
  dstA := hdrCallA b 0
  dstB := hdrCallB b 0
  lsrcA := hdrCallA b 6
  lsrcB := hdrCallB b 6
  srcA := hdrCallA b 12
  srcB := hdrCallB b 12
  flags := hdrFlags (hdrByte b 18) (hdrByte b 19)
  size := hdrU16 b 20
  mySeq := hdrU16 b 22
  data01 := hdrU16 b 26 ++ hdrU16 b 24
  data23 := hdrU16 b 30 ++ hdrU16 b 28

/-! ### Commands -/

/-- HDR_PACK (R102). RX-safe; SIZE is not checked. -/
def execHdrPack (s : State) : Host.Outcome State Fault Refusal :=
  runCommand (Instr.opcode .hdrPack)
    [(s.txh.hopsBad, .eHops), rangeCheck s.dst Config.hdrLen, destHazardCheck s s.dst Config.hdrLen]
    (withPacked s fun bytes => .ok (.ok, { s with mem := Memory.writeBytes s.mem s.dst bytes }))
    s

/-- HDR_UNPACK (R103). Not RX-safe. -/
def execHdrUnpack (s : State) : Host.Outcome State Fault Refusal :=
  runCommand (Instr.opcode .hdrUnpack) [hazardCheck s, rangeCheck s.src Config.hdrLen]
    (withBytes s.mem s.src Config.hdrLen fun input => .ok (.ok, { s with rxh := unpack input }))
    s

end Sys2Proof.Machine
end

