-- ==== Sys2Proof/Machine/Bits.lean ====
section
/-! DEFINITION. Bytes as bit sequences, most significant bit first (spec/00_scope.md R11, spec/20_memory.md R45). -/

namespace Sys2Proof.Machine

/-- The bits of one byte, bit 7 first. -/
def byteBits (b : Byte) : List Bool :=
  [b.getLsbD 7, b.getLsbD 6, b.getLsbD 5, b.getLsbD 4, b.getLsbD 3, b.getLsbD 2, b.getLsbD 1, b.getLsbD 0]

/-- `bits(B)`: bit 8i+k is B[i][7-k] (R11). -/
def bits : List Byte → List Bool
  | [] => []
  | b :: bs => byteBits b ++ bits bs

/-- A byte from its eight bits, the first one bit 7. -/
def byteOfBits (b7 b6 b5 b4 b3 b2 b1 b0 : Bool) : Byte :=
  BitVec.ofBool b7 ++ BitVec.ofBool b6 ++ BitVec.ofBool b5 ++ BitVec.ofBool b4 ++ BitVec.ofBool b3 ++ BitVec.ofBool b2
    ++ BitVec.ofBool b1 ++ BitVec.ofBool b0

/-- `bytes(s)`: the inverse of `bits` on sequences whose length is a multiple of 8 (R11). -/
def bytesOfBits : List Bool → List Byte
  | b7 :: b6 :: b5 :: b4 :: b3 :: b2 :: b1 :: b0 :: rest => byteOfBits b7 b6 b5 b4 b3 b2 b1 b0 :: bytesOfBits rest
  | _ => []

end Sys2Proof.Machine
end

