-- ==== Sys2Proof/Machine/Interleaver.lean ====
section
/-! DEFINITION. The LFSR bit-interleaver and de-interleaver and the commands SCRAMBLE and DESCRAMBLE
(spec/41_interleaver.md). -/

namespace Sys2Proof.Machine

/-- One scrambler clock with input bit b (R66): output bit and next state. -/
def scrStep (s : BitVec 9) (b : Bool) : Bool × BitVec 9 :=
  (s.getLsbD 0 ^^ s.getLsbD 4,
    BitVec.ofBool (b ^^ s.getLsbD 0) ++ s.extractLsb' 5 4 ++ BitVec.ofBool (s.getLsbD 4 ^^ s.getLsbD 0)
      ++ s.extractLsb' 1 3)

/-- One descrambler clock with input bit c (R67): output bit and next state. -/
def dscrStep (r : BitVec 9) (c : Bool) : Bool × BitVec 9 :=
  (c ^^ r.getLsbD 0,
    BitVec.ofBool c ++ r.extractLsb' 5 4 ++ BitVec.ofBool (r.getLsbD 4 ^^ c) ++ r.extractLsb' 1 3)

/-- Clock a register through a bit sequence: every output bit, and the final state. -/
def clockBits (step : BitVec 9 → Bool → Bool × BitVec 9) : BitVec 9 → List Bool → List Bool × BitVec 9
  | s, [] => ([], s)
  | s, b :: bs =>
    let (o, s') := step s b
    let (os, s'') := clockBits step s' bs
    (o :: os, s'')

/-- `scramble(B)` (R69): from TX_INIT, the input bits and then PRIME flush bits 0; the first PRIME outputs are dropped. -/
def scramble (bytes : List Byte) : List Byte × BitVec 9 :=
  match bytes with
  | [] => ([], Config.txInit)
  | _ :: _ =>
    let (os, s) := clockBits scrStep Config.txInit (bits bytes ++ List.replicate Config.prime false)
    (bytesOfBits (os.drop Config.prime), s)

/-- `descramble(C)` (R70): from RX_INIT, one output bit per input bit. -/
def descramble (bytes : List Byte) : List Byte × BitVec 9 :=
  let (os, r) := clockBits dscrStep Config.rxInit (bits bytes)
  (bytesOfBits os, r)

/-- SCRAMBLE (R76). RX-safe. -/
def execScramble (s : State) : Host.Outcome State Fault Refusal :=
  runCommand (Instr.opcode .scramble)
    [rangeCheck s.src s.len, rangeCheck s.dst s.len, destHazardCheck s s.dst s.len]
    (withBytes s.mem s.src s.len fun input =>
      let (out, lfsr) := scramble input
      .ok (.ok, { s with mem := Memory.writeBytes s.mem s.dst out, lfsrTx := lfsr }))
    s

/-- DESCRAMBLE (R77). Not RX-safe. -/
def execDescramble (s : State) : Host.Outcome State Fault Refusal :=
  runCommand (Instr.opcode .descramble)
    [hazardCheck s, rangeCheck s.src s.len, rangeCheck s.dst s.len]
    (withBytes s.mem s.src s.len fun input =>
      let (out, lfsr) := descramble input
      .ok (.ok, { s with mem := Memory.writeBytes s.mem s.dst out, lfsrRx := lfsr }))
    s

end Sys2Proof.Machine
end

