-- ==== Sys2Proof/Machine/FrameEngine.lean ====
section
/-! DEFINITION. The frame engine and the commands NOP, ENCODE_FRAME, DECODE_FRAME and DECODE_HEADER
(spec/44_frame_engine.md). -/

namespace Sys2Proof.Machine

/-! ### The raw frame (R104) and header acceptance (R106) -/

/-- The scrambled packed header and payload of a frame, with the final scrambler state (R104): one scramble over both. -/
def frameStream (header payload : List Byte) : List Byte × BitVec 9 := scramble (header ++ payload)

/-- The raw frame from its scrambled stream (R104): the header codeword, then the payload blocks. -/
def frameOf (stream : List Byte) : List Byte :=
  hdrEnc (stream.take Config.hdrLen) ++ payEnc (stream.drop Config.hdrLen)

/-- The outcomes of `hdrCheck` (R106). -/
inductive HdrOutcome where
  /-- RS_BAD: the header codeword is uncorrectable. -/
  | rsBad
  /-- SIZE_BAD: the header decoded but carries a length the block cannot carry. -/
  | sizeBad
  /-- GOOD: the header, its 32 scrambled bytes, the symbols corrected, and the final descrambler state. -/
  | good (h : HeaderRegs) (hs : List Byte) (corrected : Nat) (lfsr : BitVec 9)
deriving DecidableEq, Repr

/-- `hdrCheck(R)` for a 64-byte raw header (R106). -/
def hdrCheck (r : List Byte) : HdrOutcome :=
  match hdrDec r with
  | .fail => .rsBad
  | .ok hs ch =>
    let (d, lfsr) := descramble hs
    let h := unpack d
    if sizeRefused h.size.toNat then .sizeBad else .good h hs ch lfsr

/-- The result code of a failed header check (R109, R110, R141); GOOD has none. -/
def HdrOutcome.failCode : HdrOutcome → Option ResultCode
  | .rsBad => some .hdrRsFail
  | .sizeBad => some .hdrSizeFail
  | .good _ _ _ _ => none

/-! ### The work of DECODE_FRAME (R109), shared with the receiver's `frameDone` (R139) -/

/-- The frame result set and the payload, once the header is GOOD and the lengths fit (R109). -/
def State.setFrameResult (s : State) (dst : Nat) (h : HeaderRegs) (hs : List Byte) (ch : Nat) (r : PayResult) : State :=
  let len := h.size.toNat
  let (d, lfsr) := descramble (hs ++ r.data)
  let s' := s.setPayResult len r
  { s' with
    mem := Memory.writeBytes s.mem dst ((d.drop Config.hdrLen).take len)
    rxh := unpack (d.take Config.hdrLen)
    codec := { s'.codec with corrHdr := BitVec.ofNat 8 ch }
    lfsrRx := lfsr }

/-- Decode the n-byte frame at `src` with its payload to `dst` (R109): the header first, then the late checks, then the
payload. A failed header or a late check leaves the state unchanged. -/
def decodeFrameAt (src n dst : Nat) (s : State) : Execution :=
  withBytes s.mem src Config.hdrRaw fun header =>
    match hdrCheck header with
    | .rsBad => .ok (.hdrRsFail, s)
    | .sizeBad => .ok (.hdrSizeFail, s)
    | .good h hs ch _ =>
      let len := h.size.toNat
      if n < Config.hdrRaw + rawSize len then .ok (.eLength, s)
      else if !regionOk dst len then .ok (.eRange, s)
      else
        withBytes s.mem (src + Config.hdrRaw) (rawSize len) fun wire =>
          .ok (.ok, s.setFrameResult dst h hs ch (payDec wire len s.draws))

/-! ### Commands -/

/-- NOP (R107). RX-safe; it does nothing but complete. -/
def execNop (s : State) : Host.Outcome State Fault Refusal := runCommand (Instr.opcode .nop) [] (.ok (.ok, s)) s

/-- ENCODE_FRAME (R108). RX-safe; the payload length is TXH_SIZE and ARG_LEN is not used. -/
def execEncodeFrame (s : State) : Host.Outcome State Fault Refusal :=
  let len := s.txh.size.toNat
  let total := Config.hdrRaw + rawSize len
  runCommand (Instr.opcode .encodeFrame)
    [(s.txh.hopsBad, .eHops), (sizeRefused len, .eSize), rangeCheck s.src len, rangeCheck s.dst total,
      destHazardCheck s s.dst total]
    (withBytes s.mem s.src len fun payload => withPacked s fun header =>
      let (stream, lfsr) := frameStream header payload
      .ok (.ok,
        { s with
          mem := Memory.writeBytes s.mem s.dst (frameOf stream)
          txFrameLen := BitVec.ofNat 16 total
          lfsrTx := lfsr }))
    s

/-- DECODE_FRAME (R109). Not RX-safe. -/
def execDecodeFrame (s : State) : Host.Outcome State Fault Refusal :=
  runCommand (Instr.opcode .decodeFrame) [hazardCheck s, (decide (s.len < Config.hdrRaw), .eLength), rangeCheck s.src s.len]
    (decodeFrameAt s.src s.len s.dst s) s

/-- DECODE_HEADER (R110). Not RX-safe. -/
def execDecodeHeader (s : State) : Host.Outcome State Fault Refusal :=
  runCommand (Instr.opcode .decodeHeader) [hazardCheck s, (decide (s.len < Config.hdrRaw), .eLength), rangeCheck s.src Config.hdrRaw]
    (withBytes s.mem s.src Config.hdrRaw fun header =>
      match hdrCheck header with
      | .rsBad => .ok (.hdrRsFail, s)
      | .sizeBad => .ok (.hdrSizeFail, s)
      | .good h _ ch lfsr =>
        .ok (.ok,
          { s with
            rxh := h
            part := partRegsOf h.size.toNat
            codec := { s.codec with corrHdr := BitVec.ofNat 8 ch }
            lfsrRx := lfsr }))
    s

end Sys2Proof.Machine
end

