-- ==== Sys2Proof/Machine/Pipe.lean ====
section
/-! DEFINITION. The frame assembler (ReceiverPipe) and the commands PIPE_RESET and PIPE_ADD_BYTE
(spec/46_receiver.md R135 to R141). -/

namespace Sys2Proof.Machine

/-- `pipeCounterReset` (R135): FRAME_RX, PIPE_RESULT and PIPE_DONE are left alone. -/
def State.pipeCounterReset (s : State) : State :=
  { s with
    pipe := { s.pipe with count := 0#16, remaining := 0#16, frameLen := 0#16 }
    status := { s.status with pipeHdrKnown := false } }

/-- PIPE_RESULT from the pair (remaining, frame_len), each in 16-bit two's complement (R137). -/
def pipePair (remaining frameLen : Int) : Word := BitVec.ofInt 16 frameLen ++ BitVec.ofInt 16 remaining

/-- What `pipeAdd` gives (R136). -/
structure PipeOut where
  /-- The state after the byte. -/
  state : State
  /-- `why`: the code of a failed header, whose result pair is (-1, -1). -/
  failed : Option ResultCode
  /-- The byte completed a frame. -/
  done : Bool
  /-- The second component of the result pair on completion. -/
  frameLen : Nat
deriving DecidableEq, Repr

/-- The end of `pipeAdd` for a byte that did not fail (R136): completion when the countdown has reached 0, and PIPE_RESULT. -/
def pipeFinish (s : State) (remaining frameLen : Int) : PipeOut :=
  if s.status.pipeHdrKnown && s.pipe.remaining == 0#16 then
    let total := s.pipe.frameLen.toNat
    let s' := s.pipeCounterReset
    { state :=
        { s' with
          pipe := { s'.pipe with result := pipePair 0 total }
          status := { s'.status with pipeDone := true } }
      failed := none
      done := true
      frameLen := total }
  else
    { state := { s with pipe := { s.pipe with result := pipePair remaining frameLen } }
      failed := none
      done := false
      frameLen := s.pipe.frameLen.toNat }

/-- The end of `pipeAdd` for a header that fails (R136): the counters are reset and the pair is (-1, -1). -/
def pipeFail (s : State) (code : ResultCode) : PipeOut :=
  let s' := s.pipeCounterReset
  { state := { s' with pipe := { s'.pipe with result := pipePair (-1) (-1) } }
    failed := some code
    done := false
    frameLen := 0 }

/-- The first writes of `pipeAdd` (R136): the byte into FRAME_RX at the count, the count up, PIPE_DONE cleared. -/
def State.pipeStore (s : State) (byte : Byte) : State :=
  { s with
    mem := Memory.write s.mem (frameRx + s.pipe.count.toNat) byte
    pipe := { s.pipe with count := s.pipe.count + 1#16 }
    status := { s.status with pipeDone := false } }

/-- `pipeAdd(byte)` (R136). -/
def pipeAdd (byte : Byte) (s : State) : Except Fault PipeOut :=
  if Config.bufSize ≤ frameRx + s.pipe.count.toNat then .error .outsideBuffer
  else
    let s1 := s.pipeStore byte
    if s.status.pipeHdrKnown then
      let rem := s1.pipe.remaining - 1#16
      .ok (pipeFinish { s1 with pipe := { s1.pipe with remaining := rem } } rem.toNat s1.pipe.frameLen.toNat)
    else if s1.pipe.count.toNat < Config.hdrRaw then
      .ok (pipeFinish s1 ((Config.hdrRaw : Int) - s1.pipe.count.toNat) 0)
    else
      match Memory.readBytes s1.mem frameRx Config.hdrRaw with
      | none => .error .uninitRead
      | some header =>
        match hdrCheck header with
        | .rsBad => .ok (pipeFail s1 .hdrRsFail)
        | .sizeBad => .ok (pipeFail s1 .hdrSizeFail)
        | .good h _ _ _ =>
          let raw := rawSize h.size.toNat
          let s2 :=
            { s1 with
              status := { s1.status with pipeHdrKnown := true }
              pipe :=
                { s1.pipe with
                  remaining := BitVec.ofNat 16 raw
                  frameLen := BitVec.ofNat 16 (Config.hdrRaw + raw) } }
          .ok (pipeFinish s2 raw ((Config.hdrRaw : Int) + raw))

/-! ### Commands -/

/-- PIPE_RESET (R140). Not RX-safe. -/
def execPipeReset (s : State) : Host.Outcome State Fault Refusal :=
  let s' := s.pipeCounterReset
  runCommand (Instr.opcode .pipeReset) [hazardCheck s]
    (.ok (.ok,
      { s' with
        pipe := { s'.pipe with result := 0#32 }
        status := { s'.status with pipeDone := false } }))
    s

/-- PIPE_ADD_BYTE (R141). Not RX-safe. A failed header is a channel-class result and keeps the pipe's writes. -/
def execPipeAddByte (imm8 : Byte) (s : State) : Host.Outcome State Fault Refusal :=
  runCommand (Instr.opcode (.pipeAddByte imm8)) [hazardCheck s]
    (match pipeAdd imm8 s with
      | .error f => .error f
      | .ok out => .ok (out.failed.getD .ok, out.state))
    s

end Sys2Proof.Machine
end

