-- ==== Sys2Proof/Machine/Detector.lean ====
section
/-! DEFINITION. The Barker-code carrier and sync detector: the Moore machine with BARKER_RESET and BARKER_STEP, `rxReset`,
the bit decision, the gain estimate, and the search, lock and matching steps of the RX agent (spec/45_detector.md). -/

namespace Sys2Proof.Machine

/-! ### The Moore machine (R127) -/

/-- `barkerStep(k, b)` for a sequence and a re-test choice (R127): the next state, and whether the pattern was found. A
state past the end of the sequence, which is never reached, expects nothing (log 9). -/
def barkerStepWith (seq : List Bool) (retest : Bool) (k : Nat) (b : Bool) : Nat × Bool :=
  if seq[k]? = some b then (if k + 1 = seq.length then (0, true) else (k + 1, false))
  else if retest && decide (0 < k) && decide (seq[0]? = some b) then (1, false)
  else (0, false)

/-- `barkerStep` with the instance's parameters (R8). -/
def barkerStep (k : BitVec 5) (b : Bool) : BitVec 5 × Bool :=
  let (k', found) := barkerStepWith Config.barkerSeq Config.barkerRetest k.toNat b
  (BitVec.ofNat 5 k', found)

/-- Feed one input to the Moore machine: BARKER_STATE and STATUS.BARKER_FOUND (R123, R131). -/
def State.feedBarker (s : State) (b : Bool) : State :=
  { s with
    rx := { s.rx with barkerState := (barkerStep s.rx.barkerState b).1 }
    status := { s.status with barkerFound := (barkerStep s.rx.barkerState b).2 } }

/-! ### Commands -/

/-- BARKER_RESET (R130). Not RX-safe. -/
def execBarkerReset (s : State) : Host.Outcome State Fault Refusal :=
  runCommand (Instr.opcode .barkerReset) [hazardCheck s]
    (.ok (.ok,
      { s with
        rx := { s.rx with barkerState := 0#5 }
        status := { s.status with barkerFound := false } }))
    s

/-- BARKER_STEP (R131). Not RX-safe. IMM8[7:1] ≠ 0 gives E_ILLEGAL; the decoder never yields such a term (log 18). -/
def execBarkerStep (imm8 : Byte) (s : State) : Host.Outcome State Fault Refusal :=
  runCommand (Instr.opcode (.barkerStep imm8)) [(!Format.cb.immOk imm8, .eIllegal), hazardCheck s]
    (.ok (.ok, s.feedBarker (imm8.getLsbD 0))) s

/-! ### The RX agent's reset (R119) -/

/-- `rxReset` (R119): back to carrier search. PIPE_RESULT, PIPE_DONE, BARKER_FOUND, EVENT and the frame result set stay. -/
def State.rxReset (s : State) : State := { s.pipeCounterReset with rx := .zero, prev := none }

/-! ### Signal decisions (R115, R117, R132) -/

/-- `flip(prev, cur)` (R132): the bit is 1 exactly when the sum of products is negative. -/
def flip (d : Dsp) (prev cur : Window) : Bool :=
  decide (((List.range d.width).map (fun n => d.bpf cur n * d.bpf prev n)).sum < 0)

/-- A magnitude. -/
def magnitude (x : Num) : Num := if x < 0 then -x else x

/-- The gain estimate of a window (R117): the quantised mean magnitude over the trimmed window, `GAIN_Q(0)` if it is empty. -/
def gainEstimate (d : Dsp) (skip : BitVec 32) (w : Window) : BitVec 32 :=
  let first := (skip.extractLsb' 0 16).toNat
  let last := (skip.extractLsb' 16 16).toNat
  if d.width ≤ first + last then d.gainQ 0
  else
    let n := d.width - last - first
    d.gainQ (((List.range n).map (fun i => magnitude (d.mf w (first + i)))).sum / (n : Num))

/-- The window is coherent: `COH(w) > CFG_COH_THRESH` (R121). -/
def coherent (d : Dsp) (s : State) (w : Window) : Bool := decide (s.cfg.cohThresh.toNat < (d.coh w).val)

/-! ### The detector's steps -/

/-- The counters and the state after one search window, before the lock and budget tests (R121). -/
def State.countSearch (s : State) (isCoherent : Bool) : State :=
  { s with
    rx :=
      { s.rx with
        winCount := satSucc s.rx.winCount
        cohCount := (if isCoherent then satSucc s.rx.cohCount else 0#16)
        state := (if isCoherent then .coherenceAccumulating else .idle) } }

/-- Carrier search, in IDLE and COHERENCE_ACCUMULATING (R121): the lock is tested before the budget. -/
def searchStep (d : Dsp) (w : Window) (s : State) : State :=
  let s1 := s.countSearch (coherent d s w)
  if max s.cfg.carrierThreshold.toNat 1 ≤ s1.rx.cohCount.toNat then
    { s1 with rx := { s1.rx with state := .carrierLocked } }.emit Ev.carrierLock
  else if s.cfg.maxOffset.toNat ≤ s1.rx.winCount.toNat then (s1.emit Ev.noCarrier).rxReset
  else s1

/-- The one window of CARRIER_LOCKED (R122). -/
def lockStep (d : Dsp) (w : Window) (s : State) : State :=
  { s with
    prev := some w
    rx :=
      { s.rx with
        gain := gainEstimate d s.cfg.gainSkip w
        barkerState := 0#5
        barkerCount := 0#32
        state := .barkerMatching } }

/-- Barker matching with the phase reference given (R123). -/
def barkerMatch (d : Dsp) (prev w : Window) (s : State) : State :=
  let s1 := s.feedBarker (flip d prev w)
  let s2 := { s1 with prev := some w, rx := { s1.rx with barkerCount := satSucc s.rx.barkerCount } }
  if s2.status.barkerFound then
    { s2 with rx := { s2.rx with state := .synchronized, sepRemaining := s.cfg.sepSymbols } }.emit Ev.syncFound
  else if s.cfg.barkerMax.toNat ≤ s2.rx.barkerCount.toNat then (s2.emit Ev.noSync).rxReset
  else s2

/-- One separator window discarded: it becomes the phase reference (R124). -/
def separatorDiscard (w : Window) (s : State) : State :=
  { s with prev := some w, rx := { s.rx with sepRemaining := s.rx.sepRemaining - 1#16 } }

end Sys2Proof.Machine
end

