-- ==== Sys2Proof/Machine/Flags.lean ====
section
/-! DEFINITION. The flags as the host reads them: the STATUS word (spec/10_state.md R22), the interrupt output
(spec/60_exceptions.md R146), and the acknowledgement of events (R24). The block has no arithmetic condition codes (R36). -/

namespace Sys2Proof.Machine

/-- One flag as a bit of a 32-bit register. -/
def flagAt (b : Bool) (i : Nat) : Word := if b then 1#32 <<< i else 0#32

/-- The STATUS word (R22): bits 0 to 5; bits [31:6] read 0. -/
def State.statusWord (s : State) : Word :=
  flagAt s.busy 0 ||| flagAt s.status.fault 1 ||| flagAt s.status.payloadOk 2 ||| flagAt s.status.pipeHdrKnown 3
    ||| flagAt s.status.barkerFound 4 ||| flagAt s.status.pipeDone 5

/-- The interrupt output (R146): a level, the OR over EVENT[i] AND IRQ_EN[i]. -/
def State.irq (s : State) : Bool := (s.event &&& s.irqEn) != 0#11

/-- A host write to EVENT (R24): bits written as 1 are cleared, the others keep their value. -/
def State.ackEvents (s : State) (v : Word) : State := { s with event := s.event &&& ~~~(v.setWidth 11) }

/-- The PART_FLAGS word (R30): [0] OVERLONG, [1] OVERSIZE. -/
def PartRegs.flagsWord (p : PartRegs) : Word := flagAt p.overlong 0 ||| flagAt p.oversize 1

end Sys2Proof.Machine
end

