-- ==== Sys2Proof/Machine/HostBus.lean ====
section
/-! DEFINITION. The HOST agent: the register map, the four bus transactions, their hazards, and the soft reset
(spec/10_state.md R18 to R35, spec/20_memory.md R42, R43, spec/70_reset_and_hazards.md R153, R155 to R157). -/

namespace Sys2Proof.Machine

/-! ### The register map (R18) -/

/-- The registers of a header block, by offset from its base (R28). -/
inductive HdrReg where
  | dstA | dstB | lsrcA | lsrcB | srcA | srcB | flags | size | mySeq | data01 | data23
deriving DecidableEq, Repr

/-- The registers of the map that are implemented (R18), by name. -/
inductive Reg where
  | id | version | ctrl | cmd | status | result | event | irqEn | faultInfo
  | argSrc | argDst | argLen | argNsym | txFrameLen
  | txh (r : HdrReg) | rxh (r : HdrReg)
  | partBlocks | partSmallLen | partLargeLen | partSmallCnt | partLargeCnt | partEcc | partRaw | partFlags
  | blockFail | corrHdr | corrPay | corrRs | lfsrTx | lfsrRx
  | rxState | cohCount | winCount | barkerState | barkerCount | sepRemaining | gain | bitCount | shift
  | pipeCount | pipeRemaining | pipeFrameLen | pipeResult
  | cfgCohThresh | cfgCarrierThreshold | cfgMaxOffset | cfgBarkerMax | cfgSepSymbols | cfgGainSkip
deriving DecidableEq, Repr

/-- The header register at an offset (R28). -/
def hdrRegAt : Nat → Option HdrReg
  | 0 => some .dstA
  | 1 => some .dstB
  | 2 => some .lsrcA
  | 3 => some .lsrcB
  | 4 => some .srcA
  | 5 => some .srcB
  | 6 => some .flags
  | 7 => some .size
  | 8 => some .mySeq
  | 9 => some .data01
  | 10 => some .data23
  | _ => none

/-- The register at an index; the others are reserved (R18). -/
def regAt (i : BitVec 8) : Option Reg :=
  if 0x10 ≤ i.toNat ∧ i.toNat ≤ 0x1A then (hdrRegAt (i.toNat - 0x10)).map .txh
  else if 0x20 ≤ i.toNat ∧ i.toNat ≤ 0x2A then (hdrRegAt (i.toNat - 0x20)).map .rxh
  else
    match i.toNat with
    | 0x00 => some .id
    | 0x01 => some .version
    | 0x02 => some .ctrl
    | 0x03 => some .cmd
    | 0x04 => some .status
    | 0x05 => some .result
    | 0x06 => some .event
    | 0x07 => some .irqEn
    | 0x08 => some .faultInfo
    | 0x09 => some .argSrc
    | 0x0A => some .argDst
    | 0x0B => some .argLen
    | 0x0C => some .argNsym
    | 0x0D => some .txFrameLen
    | 0x30 => some .partBlocks
    | 0x31 => some .partSmallLen
    | 0x32 => some .partLargeLen
    | 0x33 => some .partSmallCnt
    | 0x34 => some .partLargeCnt
    | 0x35 => some .partEcc
    | 0x36 => some .partRaw
    | 0x37 => some .partFlags
    | 0x38 => some .blockFail
    | 0x39 => some .corrHdr
    | 0x3A => some .corrPay
    | 0x3B => some .corrRs
    | 0x3C => some .lfsrTx
    | 0x3D => some .lfsrRx
    | 0x40 => some .rxState
    | 0x41 => some .cohCount
    | 0x42 => some .winCount
    | 0x43 => some .barkerState
    | 0x44 => some .barkerCount
    | 0x45 => some .sepRemaining
    | 0x46 => some .gain
    | 0x47 => some .bitCount
    | 0x48 => some .shift
    | 0x49 => some .pipeCount
    | 0x4A => some .pipeRemaining
    | 0x4B => some .pipeFrameLen
    | 0x4C => some .pipeResult
    | 0x50 => some .cfgCohThresh
    | 0x51 => some .cfgCarrierThreshold
    | 0x52 => some .cfgMaxOffset
    | 0x53 => some .cfgBarkerMax
    | 0x54 => some .cfgSepSymbols
    | 0x55 => some .cfgGainSkip
    | _ => none

/-! ### Reading (R42) -/

/-- A header register's word; bits above its field read 0 (R28). -/
def HeaderRegs.word (h : HeaderRegs) : HdrReg → Word
  | .dstA => h.dstA
  | .dstB => h.dstB.setWidth 32
  | .lsrcA => h.lsrcA
  | .lsrcB => h.lsrcB.setWidth 32
  | .srcA => h.srcA
  | .srcB => h.srcB.setWidth 32
  | .flags => h.flags.setWidth 32
  | .size => h.size.setWidth 32
  | .mySeq => h.mySeq.setWidth 32
  | .data01 => h.data01
  | .data23 => h.data23

/-- RX_STATE's number (R118). -/
def RxState.code : RxState → Word
  | .idle => 0#32
  | .coherenceAccumulating => 1#32
  | .carrierLocked => 2#32
  | .barkerMatching => 3#32
  | .synchronized => 4#32
  | .rxData => 5#32

/-- A register's current word (R18 to R35); bits above its fields read 0. CTRL's SOFT_RESET reads 0 (R20). -/
def State.regWord (s : State) : Reg → Word
  | .id => Config.idValue
  | .version => Config.versionValue
  | .ctrl => flagAt s.rxEn 0
  | .cmd => s.cmd
  | .status => s.statusWord
  | .result => 0#16 ++ s.result.opc ++ s.result.code
  | .event => s.event.setWidth 32
  | .irqEn => s.irqEn.setWidth 32
  | .faultInfo => 0#16 ++ s.faultInfo.origin ++ s.faultInfo.code
  | .argSrc => s.args.src.setWidth 32
  | .argDst => s.args.dst.setWidth 32
  | .argLen => s.args.len.setWidth 32
  | .argNsym => s.args.nsym.setWidth 32
  | .txFrameLen => s.txFrameLen.setWidth 32
  | .txh r => s.txh.word r
  | .rxh r => s.rxh.word r
  | .partBlocks => s.part.blocks.setWidth 32
  | .partSmallLen => s.part.smallLen.setWidth 32
  | .partLargeLen => s.part.largeLen.setWidth 32
  | .partSmallCnt => s.part.smallCnt.setWidth 32
  | .partLargeCnt => s.part.largeCnt.setWidth 32
  | .partEcc => s.part.ecc.setWidth 32
  | .partRaw => s.part.raw
  | .partFlags => s.part.flagsWord
  | .blockFail => s.codec.blockFail
  | .corrHdr => s.codec.corrHdr.setWidth 32
  | .corrPay => s.codec.corrPay.setWidth 32
  | .corrRs => s.codec.corrRs.setWidth 32
  | .lfsrTx => s.lfsrTx.setWidth 32
  | .lfsrRx => s.lfsrRx.setWidth 32
  | .rxState => s.rx.state.code
  | .cohCount => s.rx.cohCount.setWidth 32
  | .winCount => s.rx.winCount
  | .barkerState => s.rx.barkerState.setWidth 32
  | .barkerCount => s.rx.barkerCount
  | .sepRemaining => s.rx.sepRemaining.setWidth 32
  | .gain => s.rx.gain
  | .bitCount => s.rx.bitCount.setWidth 32
  | .shift => s.rx.shift.setWidth 32
  | .pipeCount => s.pipe.count.setWidth 32
  | .pipeRemaining => s.pipe.remaining.setWidth 32
  | .pipeFrameLen => s.pipe.frameLen.setWidth 32
  | .pipeResult => s.pipe.result
  | .cfgCohThresh => s.cfg.cohThresh.setWidth 32
  | .cfgCarrierThreshold => s.cfg.carrierThreshold.setWidth 32
  | .cfgMaxOffset => s.cfg.maxOffset
  | .cfgBarkerMax => s.cfg.barkerMax
  | .cfgSepSymbols => s.cfg.sepSymbols.setWidth 32
  | .cfgGainSkip => s.cfg.gainSkip

/-- The word an index reads as: 0 at a reserved index (R16, R42). -/
def State.indexWord (s : State) (i : BitVec 8) : Word :=
  match regAt i with
  | none => 0#32
  | some r => s.regWord r

/-- The registers that a REG_RD returns truly even while BUSY (R156). -/
def readableWhileBusy (r : Option Reg) : Bool :=
  match r with
  | some .id => true
  | some .version => true
  | some .ctrl => true
  | some .cmd => true
  | some .status => true
  | some .event => true
  | some .irqEn => true
  | _ => false

/-- REG_RD i (R42): the register's word; a draw for a non-control register while BUSY (R156). No read has a side effect on
the block (R43). -/
def regRead (i : BitVec 8) (s : State) : State :=
  if s.busy && !readableWhileBusy (regAt i) then
    { s with busOut := some (.reg (Config.freeWord s.draws)), draws := s.draws + 1 }
  else { s with busOut := some (.reg (s.indexWord i)) }

/-- BUF_RD a (R42): the byte; UNINIT_READ where nothing has written it (R41); a draw while BUSY (R156,
log 12). -/
def bufRead (a : BitVec 13) (s : State) : Except Fault State :=
  if s.busy then .ok { s with busOut := some (.buf (Config.freeByte s.draws)), draws := s.draws + 1 }
  else
    match Memory.read s.mem a.toNat with
    | none => .error .uninitRead
    | some b => .ok { s with busOut := some (.buf b) }

/-! ### Writing (R42, R43) -/

/-- The soft reset (R153): every register at its reset value, PENDING discarded, PREV absent, the stream position 0 (R37).
The buffer and its written-mask stay, and so do the model's own fields (log 10). -/
def State.softReset (s : State) : State :=
  { State.reset with
    mem := s.mem
    inputs := s.inputs
    busOut := s.busOut
    draws := s.draws }

/-- A write of RX_EN (R20, R125): a change, either way, performs `rxReset`; no change, no reset. -/
def State.writeRxEn (s : State) (on : Bool) : State :=
  if on = s.rxEn then s else { s.rxReset with rxEn := on }

/-- A write to CTRL (R20, R125, R153, R155): SOFT_RESET wins over everything and is always accepted. -/
def writeCtrl (v : Word) (s : State) : State :=
  if v.getLsbD 1 then s.softReset
  else if s.busy then s.busFault .eWriteWhileBusy
  else s.writeRxEn (v.getLsbD 0)

/-- A write to CMD (R60): it issues exactly one command, which is decoded only when it executes. -/
def writeCmd (v : Word) (s : State) : State :=
  if s.busy then s.busFault .eCmdWhileBusy else { s with cmd := v, pending := some v }

/-- Write a header register (R28): bits above its field are ignored. -/
def HeaderRegs.set (h : HeaderRegs) (r : HdrReg) (v : Word) : HeaderRegs :=
  match r with
  | .dstA => { h with dstA := v }
  | .dstB => { h with dstB := v.setWidth 16 }
  | .lsrcA => { h with lsrcA := v }
  | .lsrcB => { h with lsrcB := v.setWidth 16 }
  | .srcA => { h with srcA := v }
  | .srcB => { h with srcB := v.setWidth 16 }
  | .flags => { h with flags := v.setWidth 12 }
  | .size => { h with size := v.setWidth 16 }
  | .mySeq => { h with mySeq := v.setWidth 16 }
  | .data01 => { h with data01 := v }
  | .data23 => { h with data23 := v }

/-- The configuration registers (R35), which the RX agent owns while RX_EN = 1 (R157). -/
def isCfg : Reg → Bool
  | .cfgCohThresh => true
  | .cfgCarrierThreshold => true
  | .cfgMaxOffset => true
  | .cfgBarkerMax => true
  | .cfgSepSymbols => true
  | .cfgGainSkip => true
  | _ => false

/-- Store into a plain read/write register; read-only registers ignore the write (R16, R18). CTRL, CMD, EVENT and IRQ_EN
have their own writes. -/
def State.store (s : State) (r : Reg) (v : Word) : State :=
  match r with
  | .argSrc => { s with args := { s.args with src := v.setWidth 13 } }
  | .argDst => { s with args := { s.args with dst := v.setWidth 13 } }
  | .argLen => { s with args := { s.args with len := v.setWidth 16 } }
  | .argNsym => { s with args := { s.args with nsym := v.setWidth 8 } }
  | .txh h => { s with txh := s.txh.set h v }
  | .cfgCohThresh => { s with cfg := { s.cfg with cohThresh := v.setWidth 16 } }
  | .cfgCarrierThreshold => { s with cfg := { s.cfg with carrierThreshold := v.setWidth 16 } }
  | .cfgMaxOffset => { s with cfg := { s.cfg with maxOffset := v } }
  | .cfgBarkerMax => { s with cfg := { s.cfg with barkerMax := v } }
  | .cfgSepSymbols => { s with cfg := { s.cfg with sepSymbols := v.setWidth 16 } }
  | .cfgGainSkip => { s with cfg := { s.cfg with gainSkip := v } }
  | _ => s

/-- A write to a register without a write of its own: the bus fault E_WRITE_WHILE_BUSY while BUSY, reserved and read-only
indices included (R155, log 13); E_HAZARD for CFG_* while RX_EN = 1 (R157); a reserved index ignores it (R16). -/
def writePlain (r : Option Reg) (v : Word) (s : State) : State :=
  if s.busy then s.busFault .eWriteWhileBusy
  else
    match r with
    | none => s
    | some r => if s.rxEn && isCfg r then s.busFault .eHazard else s.store r v

/-- REG_WR i, v (R42, R43). EVENT and IRQ_EN are writable even while BUSY (R155). -/
def regWrite (i : BitVec 8) (v : Word) (s : State) : State :=
  match regAt i with
  | some .ctrl => writeCtrl v s
  | some .cmd => writeCmd v s
  | some .event => s.ackEvents v
  | some .irqEn => { s with irqEn := v.setWidth 11 }
  | r => writePlain r v s

/-- BUF_WR a, b (R42): a bus fault while BUSY (R155) and, in PAY_RX or FRAME_RX, while RX_EN = 1 (R157). -/
def bufWrite (a : BitVec 13) (b : Byte) (s : State) : State :=
  if s.busy then s.busFault .eWriteWhileBusy
  else if s.rxEn && touchesRxOwned a.toNat 1 then s.busFault .eHazard
  else { s with mem := Memory.write s.mem a.toNat b }

/-- One host step: one bus transaction (R42, R142). -/
def hostStep (t : Txn) (s : State) : Host.Outcome State Fault Refusal :=
  match t with
  | .regRd i => .next (regRead i s)
  | .regWr i v => .next (regWrite i v s)
  | .bufRd a =>
    match bufRead a s with
    | .error f => .fault f
    | .ok s' => .next s'
  | .bufWr a b => .next (bufWrite a b s)

end Sys2Proof.Machine
end

