-- ==== Sys2Proof/Machine/Receiver.lean ====
section
/-! DEFINITION. The RX agent's data phase and its whole step: bit decision, byte assembly, frame completion
(spec/46_receiver.md R132 to R134, R139; spec/45_detector.md R116, R120, R124). -/

namespace Sys2Proof.Machine

/-- `frameDone(fl)` (R139): the work of DECODE_FRAME on FRAME_RX with the payload to PAY_RX, and the FRAME_READY and
RX_OVERRUN events. Its header check always gives GOOD on a frame the pipe completed; see log 8 for other states. -/
def frameDone (frameLen : Nat) (s : State) : Except Fault State :=
  let s1 := if s.event &&& Ev.frameReady ≠ 0#11 then s.emit Ev.rxOverrun else s
  match decodeFrameAt frameRx frameLen payRx s1 with
  | .error f => .error f
  | .ok (_, s2) => .ok (s2.emit Ev.frameReady)

/-- The byte that eight bit decisions have completed goes to the pipe (R134). -/
def rxByte (byte : Byte) (s : State) : Except Fault State :=
  match pipeAdd byte s with
  | .error f => .error f
  | .ok out =>
    if out.failed.isSome then .ok ((out.state.emit Ev.hdrErr).rxReset)
    else if out.done then
      match frameDone out.frameLen out.state with
      | .error f => .error f
      | .ok s' => .ok s'.rxReset
    else .ok out.state

/-- One RX_DATA window with the phase reference given (R133, R134): the newest bit enters SHIFT at bit 0. -/
def rxBit (d : Dsp) (prev w : Window) (s : State) : Except Fault State :=
  let shifted : Byte := (s.rx.shift <<< 1) ||| (BitVec.ofBool (flip d prev w)).setWidth 8
  if s.rx.bitCount.toNat < 7 then
    .ok { s with prev := some w, rx := { s.rx with shift := shifted, bitCount := s.rx.bitCount + 1#3 } }
  else rxByte shifted { s with prev := some w, rx := { s.rx with shift := 0#8, bitCount := 0#3 } }

/-- Run a step that needs the phase reference. PREV is always present there (R132), so the fault is never reached. -/
def withPrev (s : State) (k : Window → Except Fault State) : Except Fault State :=
  match s.prev with
  | none => .error .noPhaseReference
  | some p => k p

/-- One window for the RX agent, enabled and not squelched (R120). -/
def rxWindow (d : Dsp) (w : Window) (s : State) : Except Fault State :=
  match s.rx.state with
  | .idle => .ok (searchStep d w s)
  | .coherenceAccumulating => .ok (searchStep d w s)
  | .carrierLocked => .ok (lockStep d w s)
  | .barkerMatching => withPrev s fun p => .ok (barkerMatch d p w s)
  | .synchronized =>
    if 0 < s.rx.sepRemaining.toNat then .ok (separatorDiscard w s)
    else withPrev s fun p => rxBit d p w { s with rx := { s.rx with state := .rxData } }
  | .rxData => withPrev s fun p => rxBit d p w s

/-- One RX step for the element (w, sq) (R114, R116, R120): the stream position moves on whether or not RX_EN is set. -/
def rxStep (d : Dsp) (w : Window) (sq : Bool) (s : State) : Host.Outcome State Fault Refusal :=
  let s1 := { s with rxPos := s.rxPos + 1 }
  if s.rxEn then
    if sq then .next (s1.emit Ev.squelch).rxReset
    else
      match rxWindow d w s1 with
      | .error f => .fault f
      | .ok s' => .next s'
  else .next s1

end Sys2Proof.Machine
end

