-- ==== Sys2Proof/Machine/Dispatch.lean ====
section
/-! DEFINITION. The dispatch of every command of spec/opcode_table.json to its meaning: one command-unit step (R61). -/

namespace Sys2Proof.Machine

def exec (i : Instr) (s : State) : Host.Outcome State Fault Refusal :=
  match i with
  | .nop => Sys2Proof.Machine.execNop s
  | .hdrPack => Sys2Proof.Machine.execHdrPack s
  | .hdrUnpack => Sys2Proof.Machine.execHdrUnpack s
  | .rawSize => Sys2Proof.Machine.execRawSize s
  | .scramble => Sys2Proof.Machine.execScramble s
  | .descramble => Sys2Proof.Machine.execDescramble s
  | .rsEncode => Sys2Proof.Machine.execRsEncode s
  | .rsDecode => Sys2Proof.Machine.execRsDecode s
  | .hdrEncode => Sys2Proof.Machine.execHdrEncode s
  | .hdrDecode => Sys2Proof.Machine.execHdrDecode s
  | .payEncode => Sys2Proof.Machine.execPayEncode s
  | .payDecode => Sys2Proof.Machine.execPayDecode s
  | .encodeFrame => Sys2Proof.Machine.execEncodeFrame s
  | .decodeFrame => Sys2Proof.Machine.execDecodeFrame s
  | .decodeHeader => Sys2Proof.Machine.execDecodeHeader s
  | .pipeReset => Sys2Proof.Machine.execPipeReset s
  | .pipeAddByte imm8 => Sys2Proof.Machine.execPipeAddByte imm8 s
  | .barkerReset => Sys2Proof.Machine.execBarkerReset s
  | .barkerStep imm8 => Sys2Proof.Machine.execBarkerStep imm8 s

end Sys2Proof.Machine
end

