-- ==== Sys2Proof/Machine/Agents.lean ====
section
/-! DEFINITION. The command unit's step and one scheduled step of an agent (spec/30_encoding.md R61,
spec/20_memory.md R50, spec/60_exceptions.md R142). -/

namespace Sys2Proof.Machine

/-- One command-unit step (R61): the pending word is decoded now, an illegal one completes with E_ILLEGAL (R56), and a
legal one runs. With nothing pending the unit has no step. -/
def cuStep (s : State) : Host.Outcome State Fault Refusal :=
  match s.pending with
  | none => .next s
  | some w =>
    match decode w with
    | .error _ => .next (s.complete (opcField w) .eIllegal)
    | .ok i => exec i s

/-- One scheduled step (R50): the agent the environment names moves. -/
def runTurn (t : Turn) (s : State) : Host.Outcome State Fault Refusal :=
  match t with
  | .host x => hostStep x s
  | .cu => cuStep s
  | .window w sq => rxStep Config.dsp w sq s

end Sys2Proof.Machine
end

