-- ==== Sys2Proof/Machine/Step.lean ====
section
/-! DEFINITION. One step of the block: the next scheduled agent's atomic step (spec/20_memory.md R50,
spec/60_exceptions.md R142). -/

namespace Sys2Proof.Machine

/-- One atomic step. The environment's schedule says who moves. With nothing scheduled the command unit executes what is
pending: the unit is weakly fair, so a pending command always comes to execute (R142); an idle block stays as it is. -/
def step (s : State) : Host.Outcome State Fault Refusal :=
  match s.inputs with
  | [] => cuStep s
  | t :: rest => runTurn t { s with inputs := rest }

/-- The state with a command word issued, so that the very next step is the command unit's step on it: CMD and PENDING
hold the word, as after an accepted CMD write (R60), and the command unit is scheduled first (log 1). -/
def State.withFetchWord (s : State) (nbits w : Nat) : State :=
  { s with
    cmd := BitVec.ofNat 32 (w % 2 ^ nbits)
    pending := some (BitVec.ofNat 32 (w % 2 ^ nbits))
    inputs := (match s.inputs with
      | [] => []
      | t :: rest => .cu :: t :: rest) }

end Sys2Proof.Machine
end

