-- ==== Sys2Proof/Safety.lean ====
section
/-! DEFINITION. What the claims speak of: runs of windows and of pipe bytes, the region a command stores to, and the
invariant of the states the block can be in. -/

namespace Sys2Proof.Machine

/-! ### Stores (spec/30_encoding.md R63, the columns ARG_DST and n_out) -/

/-- The payload length in the header codeword at ARG_SRC, 0 where the header is not accepted (R106, R109). -/
def sourceFrameLen (s : State) : Nat :=
  match Memory.readBytes s.mem s.src Config.hdrRaw with
  | none => 0
  | some header =>
    match hdrCheck header with
    | .good h _ _ _ => h.size.toNat
    | .rsBad => 0
    | .sizeBad => 0

/-- Where a command stores in the buffer: the start and the length of its output region (R63). -/
def storeRegion (i : Instr) (s : State) : Nat × Nat :=
  match i with
  | .nop => (0, 0)
  | .hdrPack => (s.dst, Config.hdrLen)
  | .hdrUnpack => (0, 0)
  | .rawSize => (0, 0)
  | .scramble => (s.dst, s.len)
  | .descramble => (s.dst, s.len)
  | .rsEncode => (s.dst, s.len + s.nsym)
  | .rsDecode => (s.dst, s.len - s.nsym)
  | .hdrEncode => (s.dst, Config.hdrRaw)
  | .hdrDecode => (s.dst, Config.hdrLen)
  | .payEncode => (s.dst, rawSize s.len)
  | .payDecode => (s.dst, s.len)
  | .encodeFrame => (s.dst, Config.hdrRaw + rawSize s.txh.size.toNat)
  | .decodeFrame => (s.dst, sourceFrameLen s)
  | .decodeHeader => (0, 0)
  | .pipeReset => (0, 0)
  | .pipeAddByte _ => (frameRx + s.pipe.count.toNat, 1)
  | .barkerReset => (0, 0)
  | .barkerStep _ => (0, 0)

/-- The address lies outside a region. -/
def outsideRegion (a : Nat) (r : Nat × Nat) : Prop := a < r.1 ∨ r.1 + r.2 ≤ a

/-- The RX-safe commands (spec/70_reset_and_hazards.md R158). -/
def rxSafe : Instr → Bool
  | .nop => true
  | .hdrPack => true
  | .hdrUnpack => false
  | .rawSize => false
  | .scramble => true
  | .descramble => false
  | .rsEncode => true
  | .rsDecode => false
  | .hdrEncode => true
  | .hdrDecode => false
  | .payEncode => true
  | .payDecode => false
  | .encodeFrame => true
  | .decodeFrame => false
  | .decodeHeader => false
  | .pipeReset => false
  | .pipeAddByte _ => false
  | .barkerReset => false
  | .barkerStep _ => false

/-- The destination region is free for an RX-safe command: RX_EN = 0, or no RX-owned byte in it (R158). -/
def destFree (s : State) (n : Nat) : Prop := (s.rxEn && touchesRxOwned s.dst n) = false

/-! ### Completions, written out (spec/30_encoding.md R61) -/

/-- A state as a command that returned OK leaves it: RESULT = (opcode, OK), nothing pending, CMD_DONE set. -/
def okDone (opc : Byte) (s : State) : State :=
  { s with result := ⟨opc, 0x00#8⟩, pending := none, event := s.event ||| 0x001#11 }

/-- A state as a command with a channel-class code leaves it: as for OK, with CMD_ERR set too and no fault (R143). -/
def channelDone (opc code : Byte) (s : State) : State :=
  { s with result := ⟨opc, code⟩, pending := none, event := s.event ||| 0x003#11 }

/-- A state as a command with a contract-class code leaves it (R143, R144): CMD_DONE and CMD_ERR set, STATUS.FAULT set, and
FAULT_INFO and EVENT.FAULT written when it is the first fault since reset. -/
def contractDone (opc code : Byte) (s : State) : State :=
  { s with
    result := ⟨opc, code⟩
    pending := none
    event := (if s.status.fault then s.event ||| 0x003#11 else s.event ||| 0x403#11)
    faultInfo := (if s.status.fault then s.faultInfo else ⟨opc, code⟩)
    status := { s.status with fault := true } }

/-- A state after a bus fault (R144): origin 0xFF, and no effect of the transaction itself. -/
def busFaultDone (code : Byte) (s : State) : State :=
  { s with
    event := (if s.status.fault then s.event else s.event ||| 0x400#11)
    faultInfo := (if s.status.fault then s.faultInfo else ⟨0xFF#8, code⟩)
    status := { s.status with fault := true } }

/-! ### Runs -/

/-- Offer the RX agent a sequence of windows without squelch, one step each (spec/45_detector.md R120). -/
def runWindows (d : Dsp) : List Window → State → Host.Outcome State Fault Refusal
  | [], s => .next s
  | w :: ws, s =>
    match rxStep d w false s with
    | .next s' => runWindows d ws s'
    | .fault f => .fault f
    | .refused r => .refused r

/-- Feed the pipe a sequence of bytes (spec/46_receiver.md R138). -/
def feedPipe : List Byte → State → Except Fault State
  | [], s => .ok s
  | b :: bs, s =>
    match pipeAdd b s with
    | .error f => .error f
    | .ok out => feedPipe bs out.state

/-- Feed the Moore machine a sequence of inputs; the outputs in order (spec/45_detector.md R127, R128). -/
def runBarker (retest : Bool) : Nat → List Bool → List Bool
  | _, [] => []
  | k, b :: bs =>
    (barkerStepWith Config.barkerSeq retest k b).2
      :: runBarker retest (barkerStepWith Config.barkerSeq retest k b).1 bs

/-- The bit decisions of a sequence of windows, each against the window before it (spec/46_receiver.md R132). -/
def flipsOf (d : Dsp) : Window → List Window → List Bool
  | _, [] => []
  | p, w :: ws => flip d p w :: flipsOf d w ws

/-! ### The blocks of an encoded payload (spec/42_rs_codec.md R84) -/

/-- `D_i`: where block i's data starts in the payload. -/
def blockStart (len i : Nat) : Nat := ((blockLens len).take i).sum

/-- `R_i`: where block i's codeword starts in the encoded payload. -/
def wireStart (len i : Nat) : Nat := blockStart len i + i * (partition len).ecc

/-- Block i's codeword in an encoded payload. -/
def wireBlock (len i : Nat) (wire : List Byte) : List Byte :=
  (wire.drop (wireStart len i)).take ((blockLens len).getD i 0 + (partition len).ecc)

/-! ### The invariant -/

/-- A code RESULT may hold (spec/60_exceptions.md R143): the codes 0x16 and 0x17 appear only in FAULT_INFO. -/
def resultCodeLegal (c : Byte) : Bool :=
  c ∈ [ResultCode.ok.value, ResultCode.rsFail.value, ResultCode.hdrRsFail.value, ResultCode.hdrSizeFail.value,
    ResultCode.eLength.value, ResultCode.eRange.value, ResultCode.eHops.value, ResultCode.eSize.value,
    ResultCode.eRsParam.value, ResultCode.eHazard.value, ResultCode.eIllegal.value]

/-- The states of the RX agent in which PREV is present (spec/10_state.md R37, spec/46_receiver.md R132). -/
def RxState.needsPrev : RxState → Bool
  | .idle => false
  | .coherenceAccumulating => false
  | .carrierLocked => false
  | .barkerMatching => true
  | .synchronized => true
  | .rxData => true

/-- The pipe's counters agree (spec/46_receiver.md R136): before the header fewer than 64 bytes are counted and nothing
else is set; after it the count and the countdown make up the frame length, which is at most 1337. -/
def pipeCountersAgree (s : State) : Bool :=
  if s.status.pipeHdrKnown then
    decide (64 ≤ s.pipe.count.toNat) && decide (1 ≤ s.pipe.remaining.toNat)
      && decide (s.pipe.count.toNat + s.pipe.remaining.toNat = s.pipe.frameLen.toNat)
      && decide (s.pipe.frameLen.toNat ≤ 1337)
  else decide (s.pipe.count.toNat < 64) && s.pipe.remaining == 0#16 && s.pipe.frameLen == 0#16

/-- Every byte the pipe has counted is written in FRAME_RX. -/
def pipeBytesWritten (s : State) : Bool :=
  (List.range s.pipe.count.toNat).all fun i => (Memory.read s.mem (frameRx + i)).isSome

/-- The invariant that every step keeps: the buffer's canonical form, the Moore machine's range (R33), PREV present exactly
where it is needed (R132), the pipe's accounts (R136), RESULT's codes (R143), FAULT_INFO set exactly when STATUS.FAULT is
(R144), and BLOCK_FAIL's high bits 0 (R31). -/
abbrev Inv (s : State) : Prop :=
  Memory.wf s.mem = true
    ∧ s.rx.barkerState.toNat < Config.barkerSeq.length
    ∧ s.prev.isSome = s.rx.state.needsPrev
    ∧ pipeCountersAgree s = true
    ∧ pipeBytesWritten s = true
    ∧ resultCodeLegal s.result.code = true
    ∧ (s.status.fault = true ↔ s.faultInfo.code ≠ 0#8)
    ∧ s.codec.blockFail.toNat < 32

end Sys2Proof.Machine
end

