-- ==== Sys2Proof/Certificates/Slice0/Obligations.lean ====
section
/-! DEFINITION. The statements for the provers. Each docstring names the rule of spec/ it formalises. -/

section
open Sys2Proof Sys2Proof.Machine

/-! ### Encoding and issue -/

/-- R55, R56, R58. Decoding the word of any well-formed command gives the command back, and a word decodes to one command
only: the well-formed one whose word it is. -/
def Obligations.DecodeEncodeAgree : Prop :=
  (∀ i : Instr, i.wf = true → decode (encode i) = .ok i)
    ∧ ∀ (w : Word) (i : Instr), decode w = .ok i → i.wf = true ∧ encode i = w

/-- R56. A word is illegal exactly when RSVD is nonzero, or OPC is not in the opcode map, or its format is C and IMM8 is
nonzero, or its format is CB and IMM8[7:1] is nonzero; every other word is a defined command. A pending illegal command
completes with E_ILLEGAL (0x1F) at the command unit's step and changes no state but RESULT, STATUS (with the pending latch),
EVENT and FAULT_INFO. -/
def Obligations.IllegalWordsComplete : Prop :=
  let formatC : List Byte :=
    [0x00#8, 0x10#8, 0x11#8, 0x12#8, 0x20#8, 0x21#8, 0x30#8, 0x31#8, 0x32#8, 0x33#8, 0x34#8, 0x35#8, 0x40#8, 0x41#8,
      0x42#8, 0x50#8, 0x60#8]
  let illegal (w : Word) : Prop :=
    w.extractLsb' 16 16 ≠ 0#16
      ∨ (w.extractLsb' 0 8 ∉ formatC ∧ w.extractLsb' 0 8 ≠ 0x51#8 ∧ w.extractLsb' 0 8 ≠ 0x61#8)
      ∨ (w.extractLsb' 0 8 ∈ formatC ∧ w.extractLsb' 8 8 ≠ 0#8)
      ∨ (w.extractLsb' 0 8 = 0x61#8 ∧ w.extractLsb' 9 7 ≠ 0#7)
  (∀ w : Word, (∃ e, decode w = .error e) ↔ illegal w)
    ∧ ∀ (s : State) (w : Word), s.pending = some w → illegal w →
        cuStep s = .next (contractDone (w.extractLsb' 0 8) 0x1F#8 s)

/-- R55, R58. Some table words, written out from the opcode map, decode to their commands. -/
def Obligations.TableWordsDecode : Prop :=
  decode 0x00000000#32 = .ok .nop ∧ decode 0x00000010#32 = .ok .hdrPack ∧ decode 0x00000021#32 = .ok .descramble
    ∧ decode 0x00000035#32 = .ok .payDecode ∧ decode 0x00000041#32 = .ok .decodeFrame
    ∧ decode 0x00004051#32 = .ok (.pipeAddByte 0x40#8) ∧ decode 0x00000161#32 = .ok (.barkerStep 0x01#8)

/-- R61, R50, R142. A pending legal command runs when the command unit steps: at once when nothing else is scheduled
(log 1), and on the command unit's scheduled turn, in both cases on the state as it is at that step. Nothing else is
done around it. A scheduled host transaction or window is that agent's step on the state with the turn taken off the
schedule; with nothing pending the command unit has no step. An illegal pending word reaches the command unit's step in
the same way. -/
def Obligations.StepRunsDecodedCommand : Prop :=
  (∀ s : State, (s.inputs = [] → step s = cuStep s)
      ∧ ∀ rest : List Turn, s.inputs = .cu :: rest → step s = cuStep { s with inputs := rest })
  ∧ (∀ (s : State) (w : Word) (i : Instr), s.pending = some w → decode w = .ok i →
      (s.inputs = [] → step s = exec i s)
        ∧ ∀ rest : List Turn, s.inputs = .cu :: rest → step s = exec i { s with inputs := rest })
    ∧ (∀ (s : State) (x : Txn) (rest : List Turn), s.inputs = .host x :: rest →
        step s = hostStep x { s with inputs := rest })
    ∧ (∀ (s : State) (w : Window) (sq : Bool) (rest : List Turn), s.inputs = .window w sq :: rest →
        step s = rxStep Config.dsp w sq { s with inputs := rest })
    ∧ ∀ s : State, s.pending = none →
        (s.inputs = [] → step s = .next s)
          ∧ ∀ rest : List Turn, s.inputs = .cu :: rest → step s = .next { s with inputs := rest }

/-! ### Completion and faults -/

/-- R143, R61. Whatever a command does, when it completes RESULT holds its opcode and a code of R143's list, nothing is
pending, CMD_DONE is set, and CMD_ERR is set if the code is not OK. -/
def Obligations.EveryCommandReports : Prop :=
  ∀ (i : Instr) (s t : State), exec i s = .next t →
    t.result.opc = i.opcode ∧ resultCodeLegal t.result.code = true ∧ t.pending = none ∧ t.event.getLsbD 0 = true
      ∧ (t.result.code ≠ 0#8 → t.event.getLsbD 1 = true)

/-- R143, R144. A command whose code is contract-class (0x10 to 0x1F) writes nothing but RESULT, STATUS (with the pending
latch), EVENT and FAULT_INFO, and is a fault: the first one since reset is recorded. -/
def Obligations.ContractCodeWritesNothingElse : Prop :=
  ∀ (i : Instr) (s t : State), exec i s = .next t → 0x10 ≤ t.result.code.toNat →
    t = contractDone i.opcode t.result.code s

/-- R144. The fault entry: STATUS.FAULT is set; if it was not set before, FAULT_INFO takes the code and the origin and
EVENT.FAULT is set, else FAULT_INFO and EVENT stay; nothing else changes. A bus fault is the entry with origin 0xFF. -/
def Obligations.FaultEntryRecordsFirst : Prop :=
  ∀ (s : State) (c : ResultCode) (origin : Byte),
    s.raiseFault c origin
        = { s with
            status := { s.status with fault := true }
            faultInfo := (if s.status.fault then s.faultInfo else ⟨origin, c.value⟩)
            event := (if s.status.fault then s.event else s.event ||| 0x400#11) }
      ∧ s.busFault c = s.raiseFault c 0xFF#8

/-! ### What each command does -/

/-- R107. NOP is word 0x00000000; it does nothing and returns OK, with RX_EN = 0 or 1. -/
def Obligations.NopOnlyCompletes : Prop :=
  decode 0x00000000#32 = .ok .nop
    ∧ ∀ s : State,
        exec .nop s
          = .next { s with result := ⟨0x00#8, 0x00#8⟩, pending := none, event := s.event ||| 0x001#11 }

/-- R102, R103. HDR_PACK with HOPS_REM ≤ HOPS and a destination inside the buffer (and free, R158) stores the packed TXH.
HDR_UNPACK of 32 written bytes, RX_EN = 0, writes the unpacked record into RXH. -/
def Obligations.HeaderCommandsConvert : Prop :=
  (∀ s : State, s.txh.hopsRem.toNat ≤ s.txh.hops.toNat → s.dst + 32 ≤ 8192 → destFree s 32 →
      exec .hdrPack s = .next (okDone 0x10#8 { s with mem := Memory.writeBytes s.mem s.dst (packBytes s.txh) }))
    ∧ ∀ (s : State) (input : List Byte), s.rxEn = false → s.src + 32 ≤ 8192 →
        Memory.readBytes s.mem s.src 32 = some input →
        exec .hdrUnpack s = .next (okDone 0x11#8 { s with rxh := unpack input })

/-- R90, R84, R85, R87, R30. RAW_SIZE, RX_EN = 0, writes the partition of L = ARG_LEN into PART_*, for every L: all zero for
L = 0, else the formulas of R84, raw(L) = L + block_cnt·ecc_sym_cnt, and the OVERLONG and OVERSIZE flags. While RX_EN = 1 it
gives E_HAZARD. The same registers are what every other command and the receiver write for a length. -/
def Obligations.RawSizeWritesPartition : Prop :=
  let regs (len : Nat) : PartRegs :=
    if len = 0 then ⟨0#16, 0#16, 0#16, 0#16, 0#16, 0#16, 0#32, false, false⟩
    else
      let blocks := (len + 204) / 205
      let small := len / blocks
      let largeCnt := len - blocks * small
      let ecc := small / 5 + 10
      { blocks := BitVec.ofNat 16 blocks
        smallLen := BitVec.ofNat 16 small
        largeLen := BitVec.ofNat 16 (small + 1)
        smallCnt := BitVec.ofNat 16 (blocks - largeCnt)
        largeCnt := BitVec.ofNat 16 largeCnt
        ecc := BitVec.ofNat 16 ecc
        raw := BitVec.ofNat 32 (len + blocks * ecc)
        overlong := decide (255 < (if 0 < largeCnt then small + 1 else small) + ecc)
        oversize := decide (1023 < len) }
  (∀ s : State, s.rxEn = true → exec .rawSize s = .next (contractDone 0x12#8 0x15#8 s))
    ∧ (∀ s : State, s.rxEn = false → exec .rawSize s = .next (okDone 0x12#8 { s with part := regs s.len }))
    ∧ ∀ len : Nat, partRegsOf len = regs len

/-- R76, R77. SCRAMBLE (destination free) and DESCRAMBLE (RX_EN = 0) of n = ARG_LEN written bytes store the n output
bytes and write the final register state to LFSR_TX and LFSR_RX; for n = 0 nothing is stored and the register takes its
initial state. That SCRAMBLE of n = 0 completes with OK while RX_EN = 1 and ARG_DST lies in PAY_RX or FRAME_RX too, a
region of no bytes overlapping nothing, is the model's choice (log 19). The two functions are R69's and R70's runs of
the registers, from 0x00F with five flush bits and from 0x1F0. -/
def Obligations.ScramblersStoreOutput : Prop :=
  (∀ (s : State) (input : List Byte), s.src + s.len ≤ 8192 → s.dst + s.len ≤ 8192 → destFree s s.len →
      Memory.readBytes s.mem s.src s.len = some input →
      exec .scramble s
        = .next (okDone 0x20#8
            { s with mem := Memory.writeBytes s.mem s.dst (scramble input).1, lfsrTx := (scramble input).2 }))
    ∧ (∀ (s : State) (input : List Byte), s.rxEn = false → s.src + s.len ≤ 8192 → s.dst + s.len ≤ 8192 →
        Memory.readBytes s.mem s.src s.len = some input →
        exec .descramble s
          = .next (okDone 0x21#8
              { s with mem := Memory.writeBytes s.mem s.dst (descramble input).1, lfsrRx := (descramble input).2 }))
    ∧ scramble [] = ([], 0x00F#9) ∧ descramble [] = ([], 0x1F0#9)
    ∧ (∀ bytes : List Byte, bytes ≠ [] →
        let run := clockBits scrStep 0x00F#9 (bits bytes ++ List.replicate 5 false)
        bits (scramble bytes).1 = run.1.drop 5 ∧ (scramble bytes).2 = run.2)
    ∧ ∀ bytes : List Byte,
        let run := clockBits dscrStep 0x1F0#9 (bits bytes)
        bits (descramble bytes).1 = run.1 ∧ (descramble bytes).2 = run.2

/-- R91, R92. RS_ENCODE with 1 ≤ k, 1 ≤ nsym, k + nsym ≤ 255, regions inside the buffer and the destination free stores
the k + nsym bytes of the codeword. RS_DECODE, RX_EN = 0, with 1 ≤ nsym and nsym + 1 ≤ n ≤ 255: a word that decodes
stores its k message bytes and writes CORR_RS; a word that does not gives RS_FAIL (0x01), a channel-class result, and
writes nothing else. -/
def Obligations.RsCommandsStore : Prop :=
  (∀ (s : State) (m : List Byte), 1 ≤ s.len → 1 ≤ s.nsym → s.len + s.nsym ≤ 255 → s.src + s.len ≤ 8192 →
      s.dst + (s.len + s.nsym) ≤ 8192 → destFree s (s.len + s.nsym) → Memory.readBytes s.mem s.src s.len = some m →
      exec .rsEncode s = .next (okDone 0x30#8 { s with mem := Memory.writeBytes s.mem s.dst (rsEnc m s.nsym) }))
    ∧ ∀ (s : State) (r : List Byte), s.rxEn = false → 1 ≤ s.nsym → s.nsym + 1 ≤ s.len → s.len ≤ 255 →
        s.src + s.len ≤ 8192 → s.dst + (s.len - s.nsym) ≤ 8192 → Memory.readBytes s.mem s.src s.len = some r →
        (∀ (d : List Byte) (c : Nat), rsDec r s.nsym = .ok d c →
            exec .rsDecode s
              = .next (okDone 0x31#8
                  { s with
                    mem := Memory.writeBytes s.mem s.dst d
                    codec := { s.codec with corrRs := BitVec.ofNat 8 c } }))
          ∧ (rsDec r s.nsym = .fail → exec .rsDecode s = .next (channelDone 0x31#8 0x01#8 s))

/-- R93, R94. HDR_ENCODE (destination free) stores the 64-byte header codeword of 32 written bytes. HDR_DECODE (RX_EN = 0)
of 64 written bytes stores the 32 message bytes and writes CORR_HDR, or gives HDR_RS_FAIL (0x02) and writes nothing else. -/
def Obligations.HeaderCodecStores : Prop :=
  (∀ (s : State) (h : List Byte), s.src + 32 ≤ 8192 → s.dst + 64 ≤ 8192 → destFree s 64 →
      Memory.readBytes s.mem s.src 32 = some h →
      exec .hdrEncode s = .next (okDone 0x32#8 { s with mem := Memory.writeBytes s.mem s.dst (rsEnc h 32) }))
    ∧ ∀ (s : State) (r : List Byte), s.rxEn = false → s.src + 64 ≤ 8192 → s.dst + 32 ≤ 8192 →
        Memory.readBytes s.mem s.src 64 = some r →
        (∀ (d : List Byte) (c : Nat), rsDec r 32 = .ok d c →
            exec .hdrDecode s
              = .next (okDone 0x33#8
                  { s with
                    mem := Memory.writeBytes s.mem s.dst d
                    codec := { s.codec with corrHdr := BitVec.ofNat 8 c } }))
          ∧ (rsDec r 32 = .fail → exec .hdrDecode s = .next (channelDone 0x33#8 0x02#8 s))

/-- R95, R96. PAY_ENCODE of a length neither oversize nor overlong, regions inside the buffer and the destination free,
stores the raw(L) bytes of PayEnc, whose block i is the codeword of block i of the payload (R88). PAY_DECODE, RX_EN = 0,
of raw(L) written bytes always returns OK: it stores the payload and writes PART_*, BLOCK_FAIL, CORR_PAY and
STATUS.PAYLOAD_OK. A failed block is shown by PAYLOAD_OK and BLOCK_FAIL only, and its bytes are free values (log 5).
That PAY_ENCODE of length 0 completes with OK while RX_EN = 1 and ARG_DST lies in PAY_RX or FRAME_RX too is the model's
choice (log 19). -/
def Obligations.PayloadCommandsStore : Prop :=
  (∀ (s : State) (p : List Byte), s.len ≤ 1023 → overlong s.len = false → s.src + s.len ≤ 8192 →
      s.dst + rawSize s.len ≤ 8192 → destFree s (rawSize s.len) → Memory.readBytes s.mem s.src s.len = some p →
      exec .payEncode s = .next (okDone 0x34#8 { s with mem := Memory.writeBytes s.mem s.dst (payEnc p) }))
    ∧ (∀ p : List Byte, p.length ≤ 1023 →
        (payEnc p).length = rawSize p.length
          ∧ ∀ i < (blockLens p.length).length,
              wireBlock p.length i (payEnc p)
                = rsEnc ((p.drop (blockStart p.length i)).take ((blockLens p.length).getD i 0)) (partition p.length).ecc)
    ∧ ∀ (s : State) (wire : List Byte), s.rxEn = false → s.len ≤ 1023 → overlong s.len = false →
        s.src + rawSize s.len ≤ 8192 → s.dst + s.len ≤ 8192 → Memory.readBytes s.mem s.src (rawSize s.len) = some wire →
        exec .payDecode s
          = .next (okDone 0x35#8
              { s with
                mem := Memory.writeBytes s.mem s.dst (payDec wire s.len s.draws).data
                part := partRegsOf s.len
                codec :=
                  { s.codec with
                    blockFail := (payDec wire s.len s.draws).failMask
                    corrPay := BitVec.ofNat 16 (payDec wire s.len s.draws).corr }
                status := { s.status with payloadOk := (payDec wire s.len s.draws).ok }
                draws := (payDec wire s.len s.draws).draws })

/-- R108, R104. ENCODE_FRAME with HOPS_REM ≤ HOPS and L = TXH_SIZE neither oversize nor overlong stores the raw frame: the
scrambled header's codeword, then the scrambled payload's blocks. TX_FRAME_LEN and LFSR_TX are written. -/
def Obligations.EncodeFrameStoresFrame : Prop :=
  ∀ (s : State) (p : List Byte), s.txh.hopsRem.toNat ≤ s.txh.hops.toNat → s.txh.size.toNat ≤ 1023 →
    overlong s.txh.size.toNat = false → s.src + s.txh.size.toNat ≤ 8192 →
    s.dst + (64 + rawSize s.txh.size.toNat) ≤ 8192 → destFree s (64 + rawSize s.txh.size.toNat) →
    Memory.readBytes s.mem s.src s.txh.size.toNat = some p →
    exec .encodeFrame s
      = .next (okDone 0x40#8
          { s with
            mem :=
              Memory.writeBytes s.mem s.dst
                (rsEnc ((scramble (packBytes s.txh ++ p)).1.take 32) 32 ++ payEnc ((scramble (packBytes s.txh ++ p)).1.drop 32))
            txFrameLen := BitVec.ofNat 16 (64 + rawSize s.txh.size.toNat)
            lfsrTx := (scramble (packBytes s.txh ++ p)).2 })

/-- R109. DECODE_FRAME, RX_EN = 0, of a frame of at least 64 bytes inside the buffer. A header that fails gives
HDR_RS_FAIL or HDR_SIZE_FAIL and writes nothing else. With an accepted header, a long enough frame and room for the
payload, the payload is stored and RXH, PART_*, BLOCK_FAIL, CORR_HDR, CORR_PAY, PAYLOAD_OK and LFSR_RX are written. A
failed block's bytes are free values (log 5). -/
def Obligations.DecodeFrameWritesResultSet : Prop :=
  ∀ (s : State) (header : List Byte), s.rxEn = false → 64 ≤ s.len → s.src + s.len ≤ 8192 →
    Memory.readBytes s.mem s.src 64 = some header →
    (hdrCheck header = .rsBad → exec .decodeFrame s = .next (channelDone 0x41#8 0x02#8 s))
      ∧ (hdrCheck header = .sizeBad → exec .decodeFrame s = .next (channelDone 0x41#8 0x03#8 s))
      ∧ ∀ (h : HeaderRegs) (hs : List Byte) (ch : Nat) (lfsr : BitVec 9) (wire : List Byte),
          hdrCheck header = .good h hs ch lfsr → 64 + rawSize h.size.toNat ≤ s.len → s.dst + h.size.toNat ≤ 8192 →
          Memory.readBytes s.mem (s.src + 64) (rawSize h.size.toNat) = some wire →
          let pay := payDec wire h.size.toNat s.draws
          let d := descramble (hs ++ pay.data)
          exec .decodeFrame s
            = .next (okDone 0x41#8
                { s with
                  mem := Memory.writeBytes s.mem s.dst ((d.1.drop 32).take h.size.toNat)
                  rxh := unpack (d.1.take 32)
                  part := partRegsOf h.size.toNat
                  codec :=
                    { s.codec with
                      blockFail := pay.failMask
                      corrHdr := BitVec.ofNat 8 ch
                      corrPay := BitVec.ofNat 16 pay.corr }
                  status := { s.status with payloadOk := pay.ok }
                  lfsrRx := d.2
                  draws := pay.draws })

/-- R106, R110. The header check is RS_BAD exactly when the 64 bytes do not decode; when they do, it is SIZE_BAD for a
length above 1023 or one of the four overlong ones, and otherwise GOOD with the unpacked header, the 32 scrambled bytes,
the number of corrections and the final descrambler state. DECODE_HEADER, RX_EN = 0, ARG_LEN ≥ 64, decodes the first 64
bytes only: it writes RXH, PART_*, CORR_HDR and LFSR_RX, or gives HDR_RS_FAIL or HDR_SIZE_FAIL and writes nothing else.
-/
def Obligations.DecodeHeaderWritesHeader : Prop :=
  (∀ r : List Byte,
      (hdrCheck r = .rsBad ↔ rsDec r 32 = .fail)
        ∧ ∀ (hs : List Byte) (c : Nat), rsDec r 32 = .ok hs c →
            let h := unpack (descramble hs).1
            (1023 < h.size.toNat ∨ h.size.toNat ∈ [205, 410, 615, 820] → hdrCheck r = .sizeBad)
              ∧ (h.size.toNat ≤ 1023 → h.size.toNat ∉ [205, 410, 615, 820] →
                  hdrCheck r = .good h hs c (descramble hs).2))
  ∧ ∀ (s : State) (header : List Byte), s.rxEn = false → 64 ≤ s.len → s.src + 64 ≤ 8192 →
    Memory.readBytes s.mem s.src 64 = some header →
    (hdrCheck header = .rsBad → exec .decodeHeader s = .next (channelDone 0x42#8 0x02#8 s))
      ∧ (hdrCheck header = .sizeBad → exec .decodeHeader s = .next (channelDone 0x42#8 0x03#8 s))
      ∧ ∀ (h : HeaderRegs) (hs : List Byte) (ch : Nat) (lfsr : BitVec 9), hdrCheck header = .good h hs ch lfsr →
          exec .decodeHeader s
            = .next (okDone 0x42#8
                { s with
                  rxh := h
                  part := partRegsOf h.size.toNat
                  codec := { s.codec with corrHdr := BitVec.ofNat 8 ch }
                  lfsrRx := lfsr })

/-- R140. PIPE_RESET, RX_EN = 0, zeroes the four pipe registers and clears PIPE_HDR_KNOWN and PIPE_DONE, and returns OK;
FRAME_RX stays. While RX_EN = 1 it gives E_HAZARD. -/
def Obligations.PipeResetClearsPipe : Prop :=
  ∀ s : State,
    (s.rxEn = false →
      exec .pipeReset s
        = .next (okDone 0x50#8
            { s with
              pipe := ⟨0#16, 0#16, 0#16, 0#32⟩
              status := { s.status with pipeHdrKnown := false, pipeDone := false } }))
      ∧ (s.rxEn = true → exec .pipeReset s = .next (contractDone 0x50#8 0x15#8 s))

/-- R141, R136, R137. PIPE_ADD_BYTE, RX_EN = 0, stores its byte at 0x1000 + PIPE_COUNT. Before byte 64 the pair is
(64 - count, 0). On byte 64 an accepted header starts the countdown, or completes the frame if it carries no payload, and a
failed one resets the pipe, gives (-1, -1) and is a channel-class result. After the header the countdown falls, and the byte
that takes it to 0 completes the frame. While RX_EN = 1 the command gives E_HAZARD. -/
def Obligations.PipeAddByteAssembles : Prop :=
  (∀ (s : State) (b : Byte), s.rxEn = true → exec (.pipeAddByte b) s = .next (contractDone 0x51#8 0x15#8 s))
  ∧ ∀ (s : State) (b : Byte), s.rxEn = false →
    let stored := Memory.write s.mem (0x1000 + s.pipe.count.toNat) b
    (s.status.pipeHdrKnown = false → s.pipe.count.toNat < 63 →
        exec (.pipeAddByte b) s
          = .next (okDone 0x51#8
              { s with
                mem := stored
                pipe :=
                  { s.pipe with
                    count := s.pipe.count + 1#16
                    result := BitVec.ofNat 32 (63 - s.pipe.count.toNat) }
                status := { s.status with pipeDone := false } }))
      ∧ (∀ header : List Byte, s.status.pipeHdrKnown = false → s.pipe.count.toNat = 63 →
          Memory.readBytes stored 0x1000 64 = some header →
          (∀ (h : HeaderRegs) (hs : List Byte) (ch : Nat) (lfsr : BitVec 9), hdrCheck header = .good h hs ch lfsr →
              (h.size ≠ 0#16 →
                exec (.pipeAddByte b) s
                  = .next (okDone 0x51#8
                      { s with
                        mem := stored
                        pipe :=
                          { count := 64#16
                            remaining := BitVec.ofNat 16 (rawSize h.size.toNat)
                            frameLen := BitVec.ofNat 16 (64 + rawSize h.size.toNat)
                            result :=
                              BitVec.ofNat 16 (64 + rawSize h.size.toNat) ++ BitVec.ofNat 16 (rawSize h.size.toNat) }
                        status := { s.status with pipeHdrKnown := true, pipeDone := false } }))
                ∧ (h.size = 0#16 →
                  exec (.pipeAddByte b) s
                    = .next (okDone 0x51#8
                        { s with
                          mem := stored
                          pipe := ⟨0#16, 0#16, 0#16, 0x00400000#32⟩
                          status := { s.status with pipeHdrKnown := false, pipeDone := true } })))
            ∧ (∀ code : Byte, hdrCheck header = .rsBad ∧ code = 0x02#8 ∨ hdrCheck header = .sizeBad ∧ code = 0x03#8 →
              exec (.pipeAddByte b) s
                = .next (channelDone 0x51#8 code
                    { s with
                      mem := stored
                      pipe := ⟨0#16, 0#16, 0#16, 0xFFFFFFFF#32⟩
                      status := { s.status with pipeHdrKnown := false, pipeDone := false } })))
      ∧ (s.status.pipeHdrKnown = true → s.pipe.count.toNat < 4096 → 2 ≤ s.pipe.remaining.toNat →
          exec (.pipeAddByte b) s
            = .next (okDone 0x51#8
                { s with
                  mem := stored
                  pipe :=
                    { s.pipe with
                      count := s.pipe.count + 1#16
                      remaining := s.pipe.remaining - 1#16
                      result := s.pipe.frameLen ++ (s.pipe.remaining - 1#16) }
                  status := { s.status with pipeDone := false } }))
      ∧ (s.status.pipeHdrKnown = true → s.pipe.count.toNat < 4096 → s.pipe.remaining = 1#16 →
          exec (.pipeAddByte b) s
            = .next (okDone 0x51#8
                { s with
                  mem := stored
                  pipe := ⟨0#16, 0#16, 0#16, s.pipe.frameLen ++ 0#16⟩
                  status := { s.status with pipeHdrKnown := false, pipeDone := true } }))

/-- R130, R131, R127. BARKER_RESET and BARKER_STEP, RX_EN = 0. The reset takes the machine to state 0 and clears
BARKER_FOUND. The step with IMM8[7:1] = 0 feeds IMM8[0] to the machine in state k < 13: the expected input advances it,
or at k = 12 finds the pattern and returns it to 0; any other input returns it to 0. IMM8[7:1] ≠ 0 gives E_ILLEGAL, and
while RX_EN = 1 both commands give E_HAZARD. -/
def Obligations.BarkerCommandsRunMachine : Prop :=
  (∀ s : State, s.rxEn = true →
      exec .barkerReset s = .next (contractDone 0x60#8 0x15#8 s)
        ∧ ∀ b : Bool, exec (.barkerStep (if b then 1#8 else 0#8)) s = .next (contractDone 0x61#8 0x15#8 s))
  ∧ (∀ (s : State) (imm8 : Byte), imm8.extractLsb' 1 7 ≠ 0#7 →
      exec (.barkerStep imm8) s = .next (contractDone 0x61#8 0x1F#8 s))
  ∧ (∀ s : State, s.rxEn = false →
      exec .barkerReset s
        = .next (okDone 0x60#8
            { s with rx := { s.rx with barkerState := 0#5 }, status := { s.status with barkerFound := false } }))
    ∧ ∀ (s : State) (b : Bool) (expected : Bool), s.rxEn = false →
        [true, true, true, true, true, false, false, true, true, false, true, false, true][s.rx.barkerState.toNat]?
          = some expected →
        exec (.barkerStep (if b then 1#8 else 0#8)) s
          = .next (okDone 0x61#8
              { s with
                rx :=
                  { s.rx with
                    barkerState :=
                      (if b = expected then (if s.rx.barkerState = 12#5 then 0#5 else s.rx.barkerState + 1#5)
                      else 0#5) }
                status := { s.status with barkerFound := decide (b = expected ∧ s.rx.barkerState = 12#5) } })

/-! ### Where a command is turned away or stops -/

/-- R158, R62, R40. While RX_EN = 1 a command that is not RX-safe gives E_HAZARD (0x15), and so does an RX-safe command
whose other checks pass and whose destination region has a byte in PAY_RX (0x0400 to 0x07FF) or FRAME_RX (0x1000 to
0x17FF). That a region of no bytes has none there is the model's choice (log 19). -/
def Obligations.ReceiveHazards : Prop :=
  (∀ a n : Nat, touchesRxOwned a n = true
      ↔ ∃ x, a ≤ x ∧ x < a + n ∧ (0x0400 ≤ x ∧ x < 0x0800 ∨ 0x1000 ≤ x ∧ x < 0x1800))
  ∧ (∀ (i : Instr) (s : State), i.wf = true → rxSafe i = false → s.rxEn = true →
      exec i s = .next (contractDone i.opcode 0x15#8 s))
    ∧ (∀ s : State, s.rxEn = true → touchesRxOwned s.dst 32 = true → s.dst + 32 ≤ 8192 →
        s.txh.hopsRem.toNat ≤ s.txh.hops.toNat → exec .hdrPack s = .next (contractDone 0x10#8 0x15#8 s))
    ∧ (∀ s : State, s.rxEn = true → touchesRxOwned s.dst s.len = true → s.src + s.len ≤ 8192 →
        s.dst + s.len ≤ 8192 → exec .scramble s = .next (contractDone 0x20#8 0x15#8 s))
    ∧ (∀ s : State, s.rxEn = true → touchesRxOwned s.dst (s.len + s.nsym) = true → 1 ≤ s.len → 1 ≤ s.nsym →
        s.len + s.nsym ≤ 255 → s.src + s.len ≤ 8192 → s.dst + (s.len + s.nsym) ≤ 8192 →
        exec .rsEncode s = .next (contractDone 0x30#8 0x15#8 s))
    ∧ (∀ s : State, s.rxEn = true → touchesRxOwned s.dst 64 = true → s.src + 32 ≤ 8192 → s.dst + 64 ≤ 8192 →
        exec .hdrEncode s = .next (contractDone 0x32#8 0x15#8 s))
    ∧ (∀ s : State, s.rxEn = true → touchesRxOwned s.dst (rawSize s.len) = true → sizeRefused s.len = false →
        s.src + s.len ≤ 8192 → s.dst + rawSize s.len ≤ 8192 →
        exec .payEncode s = .next (contractDone 0x34#8 0x15#8 s))
    ∧ ∀ s : State, s.rxEn = true → touchesRxOwned s.dst (64 + rawSize s.txh.size.toNat) = true →
        s.txh.hopsRem.toNat ≤ s.txh.hops.toNat → sizeRefused s.txh.size.toNat = false →
        s.src + s.txh.size.toNat ≤ 8192 → s.dst + (64 + rawSize s.txh.size.toNat) ≤ 8192 →
        exec .encodeFrame s = .next (contractDone 0x40#8 0x15#8 s)

/-- R62, R143, R109. The parameter checks come before the range checks: E_HOPS, then E_SIZE, E_RSPARAM and E_LENGTH hold
whatever the regions are; E_SIZE is for a length above 1023 or one of the four overlong ones. DECODE_FRAME's late checks
come after its header has been accepted: a frame shorter than 64 + raw(L) gives E_LENGTH, then a payload destination
crossing the end of the buffer gives E_RANGE; nothing else is written. -/
def Obligations.ParameterAndLateChecks : Prop :=
  (∀ len : Nat, sizeRefused len = true ↔ 1023 < len ∨ len ∈ [205, 410, 615, 820])
  ∧ (∀ s : State, s.txh.hops.toNat < s.txh.hopsRem.toNat →
      exec .hdrPack s = .next (contractDone 0x10#8 0x12#8 s)
        ∧ exec .encodeFrame s = .next (contractDone 0x40#8 0x12#8 s))
    ∧ (∀ s : State, s.txh.hopsRem.toNat ≤ s.txh.hops.toNat →
        (1023 < s.txh.size.toNat ∨ overlong s.txh.size.toNat = true) →
        exec .encodeFrame s = .next (contractDone 0x40#8 0x13#8 s))
    ∧ (∀ s : State, (1023 < s.len ∨ overlong s.len = true) →
        exec .payEncode s = .next (contractDone 0x34#8 0x13#8 s)
          ∧ (s.rxEn = false → exec .payDecode s = .next (contractDone 0x35#8 0x13#8 s)))
    ∧ (∀ s : State, (s.len = 0 ∨ s.nsym = 0 ∨ 255 < s.len + s.nsym) →
        exec .rsEncode s = .next (contractDone 0x30#8 0x14#8 s))
    ∧ (∀ s : State, s.rxEn = false → (s.nsym = 0 ∨ s.len ≤ s.nsym ∨ 255 < s.len) →
        exec .rsDecode s = .next (contractDone 0x31#8 0x14#8 s))
    ∧ (∀ s : State, s.rxEn = false → s.len < 64 →
        exec .decodeFrame s = .next (contractDone 0x41#8 0x10#8 s)
          ∧ exec .decodeHeader s = .next (contractDone 0x42#8 0x10#8 s))
    ∧ ∀ (s : State) (header : List Byte) (h : HeaderRegs) (hs : List Byte) (ch : Nat) (lfsr : BitVec 9),
        s.rxEn = false → 64 ≤ s.len → s.src + s.len ≤ 8192 → Memory.readBytes s.mem s.src 64 = some header →
        hdrCheck header = .good h hs ch lfsr →
        (s.len < 64 + rawSize h.size.toNat → exec .decodeFrame s = .next (contractDone 0x41#8 0x10#8 s))
          ∧ (64 + rawSize h.size.toNat ≤ s.len → 8192 < s.dst + h.size.toNat →
              exec .decodeFrame s = .next (contractDone 0x41#8 0x11#8 s))

/-- R39, R62. A source or destination region with a + n > 8192 gives E_RANGE (0x11) once the earlier checks have passed. -/
def Obligations.RegionsNeverCrossTheEnd : Prop :=
  (∀ s : State, s.txh.hopsRem.toNat ≤ s.txh.hops.toNat → 8192 < s.dst + 32 →
      exec .hdrPack s = .next (contractDone 0x10#8 0x11#8 s))
    ∧ (∀ s : State, s.rxEn = false → 8192 < s.src + 32 → exec .hdrUnpack s = .next (contractDone 0x11#8 0x11#8 s))
    ∧ (∀ s : State, (8192 < s.src + s.len ∨ 8192 < s.dst + s.len) →
        exec .scramble s = .next (contractDone 0x20#8 0x11#8 s)
          ∧ (s.rxEn = false → exec .descramble s = .next (contractDone 0x21#8 0x11#8 s)))
    ∧ (∀ s : State, 1 ≤ s.len → 1 ≤ s.nsym → s.len + s.nsym ≤ 255 →
        (8192 < s.src + s.len ∨ 8192 < s.dst + (s.len + s.nsym)) →
        exec .rsEncode s = .next (contractDone 0x30#8 0x11#8 s))
    ∧ (∀ s : State, s.rxEn = false → 1 ≤ s.nsym → s.nsym + 1 ≤ s.len → s.len ≤ 255 →
        (8192 < s.src + s.len ∨ 8192 < s.dst + (s.len - s.nsym)) →
        exec .rsDecode s = .next (contractDone 0x31#8 0x11#8 s))
    ∧ (∀ s : State, (8192 < s.src + 32 ∨ 8192 < s.dst + 64) →
        exec .hdrEncode s = .next (contractDone 0x32#8 0x11#8 s))
    ∧ (∀ s : State, s.rxEn = false → (8192 < s.src + 64 ∨ 8192 < s.dst + 32) →
        exec .hdrDecode s = .next (contractDone 0x33#8 0x11#8 s))
    ∧ (∀ s : State, sizeRefused s.len = false →
        ((8192 < s.src + s.len ∨ 8192 < s.dst + rawSize s.len) →
            exec .payEncode s = .next (contractDone 0x34#8 0x11#8 s))
          ∧ (s.rxEn = false → (8192 < s.src + rawSize s.len ∨ 8192 < s.dst + s.len) →
              exec .payDecode s = .next (contractDone 0x35#8 0x11#8 s)))
    ∧ (∀ s : State, s.txh.hopsRem.toNat ≤ s.txh.hops.toNat → sizeRefused s.txh.size.toNat = false →
        (8192 < s.src + s.txh.size.toNat ∨ 8192 < s.dst + (64 + rawSize s.txh.size.toNat)) →
        exec .encodeFrame s = .next (contractDone 0x40#8 0x11#8 s))
    ∧ ∀ s : State, s.rxEn = false → 64 ≤ s.len →
        (8192 < s.src + s.len → exec .decodeFrame s = .next (contractDone 0x41#8 0x11#8 s))
          ∧ (8192 < s.src + 64 → exec .decodeHeader s = .next (contractDone 0x42#8 0x11#8 s))

/-- R41. A host read of a byte nothing has written, with nothing pending, is the model fault UNINIT_READ, and so is a
command that reads one as input: every command with a source region, once its own checks pass (with RX_EN = 1 too for
the RX-safe ones, whose destination is free), the payload of a frame whose header was accepted, and the pipe's 64th
header byte with a hole below it. -/
def Obligations.UnwrittenInputIsUninitRead : Prop :=
  (∀ (s : State) (a : BitVec 13), s.pending = none → Memory.read s.mem a.toNat = none →
      hostStep (.bufRd a) s = .fault .uninitRead)
    ∧ (∀ s : State, s.src + 32 ≤ 8192 → Memory.readBytes s.mem s.src 32 = none →
        (s.rxEn = false → exec .hdrUnpack s = .fault .uninitRead)
          ∧ (s.dst + 64 ≤ 8192 → destFree s 64 → exec .hdrEncode s = .fault .uninitRead))
    ∧ (∀ s : State, s.src + s.len ≤ 8192 → s.dst + s.len ≤ 8192 → Memory.readBytes s.mem s.src s.len = none →
        (destFree s s.len → exec .scramble s = .fault .uninitRead)
          ∧ (s.rxEn = false → exec .descramble s = .fault .uninitRead))
    ∧ (∀ s : State, 1 ≤ s.nsym → s.src + s.len ≤ 8192 → Memory.readBytes s.mem s.src s.len = none →
        (1 ≤ s.len → s.len + s.nsym ≤ 255 → s.dst + (s.len + s.nsym) ≤ 8192 → destFree s (s.len + s.nsym) →
            exec .rsEncode s = .fault .uninitRead)
          ∧ (s.rxEn = false → s.nsym + 1 ≤ s.len → s.len ≤ 255 → s.dst + (s.len - s.nsym) ≤ 8192 →
              exec .rsDecode s = .fault .uninitRead))
    ∧ (∀ s : State, s.rxEn = false → s.src + 64 ≤ 8192 → Memory.readBytes s.mem s.src 64 = none →
        (s.dst + 32 ≤ 8192 → exec .hdrDecode s = .fault .uninitRead)
          ∧ (64 ≤ s.len → exec .decodeHeader s = .fault .uninitRead)
          ∧ (64 ≤ s.len → s.src + s.len ≤ 8192 → exec .decodeFrame s = .fault .uninitRead))
    ∧ (∀ s : State, sizeRefused s.len = false →
        (s.src + s.len ≤ 8192 → s.dst + rawSize s.len ≤ 8192 → destFree s (rawSize s.len) →
            Memory.readBytes s.mem s.src s.len = none → exec .payEncode s = .fault .uninitRead)
          ∧ (s.rxEn = false → s.src + rawSize s.len ≤ 8192 → s.dst + s.len ≤ 8192 →
              Memory.readBytes s.mem s.src (rawSize s.len) = none → exec .payDecode s = .fault .uninitRead))
    ∧ (∀ s : State, s.txh.hopsRem.toNat ≤ s.txh.hops.toNat → sizeRefused s.txh.size.toNat = false →
        s.src + s.txh.size.toNat ≤ 8192 → s.dst + (64 + rawSize s.txh.size.toNat) ≤ 8192 →
        destFree s (64 + rawSize s.txh.size.toNat) →
        Memory.readBytes s.mem s.src s.txh.size.toNat = none → exec .encodeFrame s = .fault .uninitRead)
    ∧ (∀ (s : State) (header : List Byte) (h : HeaderRegs) (hs : List Byte) (ch : Nat) (lfsr : BitVec 9),
        s.rxEn = false → 64 + rawSize h.size.toNat ≤ s.len → s.src + s.len ≤ 8192 → s.dst + h.size.toNat ≤ 8192 →
        Memory.readBytes s.mem s.src 64 = some header → hdrCheck header = .good h hs ch lfsr →
        Memory.readBytes s.mem (s.src + 64) (rawSize h.size.toNat) = none → exec .decodeFrame s = .fault .uninitRead)
    ∧ ∀ (s : State) (b : Byte), s.rxEn = false → s.status.pipeHdrKnown = false → s.pipe.count.toNat = 63 →
        Memory.readBytes (Memory.write s.mem (0x1000 + 63) b) 0x1000 64 = none →
        exec (.pipeAddByte b) s = .fault .uninitRead

/-! ### What a command leaves alone -/

/-- R63, R44. Every byte of the buffer outside the command's output region reads after it as it read before, for every
command and every outcome that is a next state. The region is computed from the state the command starts in: ARG_DST and
the n_out of R63 (for DECODE_FRAME the accepted header's length), 0x1000 + PIPE_COUNT for PIPE_ADD_BYTE, and no byte at
all for the commands that store nothing. -/
def Obligations.CommandMemoryFrame : Prop :=
  ∀ (i : Instr) (s t : State), exec i s = .next t →
    ∀ a : Nat, outsideRegion a (storeRegion i s) → Memory.read t.mem a = Memory.read s.mem a

/-- R63, R36. What a command that answers a next state leaves unchanged. No command writes ARG_*, TXH, CTRL, CMD,
IRQ_EN, CFG_*, PREV or the stream position, nor the model's schedule and bus output. RXH, PART_*, the codec status,
TX_FRAME_LEN, the LFSR registers, the RX and pipe registers and each STATUS flag change only for the commands R63 names;
events are only ever set, and only CMD_DONE, CMD_ERR and FAULT; a recorded fault stays recorded, and only a
contract-class code records one. -/
def Obligations.CommandRegisterFrame : Prop :=
  ∀ (i : Instr) (s t : State), exec i s = .next t →
    (t.args = s.args ∧ t.txh = s.txh ∧ t.rxEn = s.rxEn ∧ t.cmd = s.cmd ∧ t.irqEn = s.irqEn ∧ t.cfg = s.cfg
        ∧ t.prev = s.prev ∧ t.rxPos = s.rxPos ∧ t.inputs = s.inputs ∧ t.busOut = s.busOut)
      ∧ (i ∉ [.hdrUnpack, .decodeFrame, .decodeHeader] → t.rxh = s.rxh)
      ∧ (i ∉ [.rawSize, .payDecode, .decodeFrame, .decodeHeader] → t.part = s.part)
      ∧ (i ∉ [.payDecode, .decodeFrame] →
          t.codec.blockFail = s.codec.blockFail ∧ t.codec.corrPay = s.codec.corrPay
            ∧ t.status.payloadOk = s.status.payloadOk ∧ t.draws = s.draws)
      ∧ (i ∉ [.hdrDecode, .decodeFrame, .decodeHeader] → t.codec.corrHdr = s.codec.corrHdr)
      ∧ (i ≠ .rsDecode → t.codec.corrRs = s.codec.corrRs)
      ∧ (i ≠ .encodeFrame → t.txFrameLen = s.txFrameLen)
      ∧ (i ∉ [.scramble, .encodeFrame] → t.lfsrTx = s.lfsrTx)
      ∧ (i ∉ [.descramble, .decodeFrame, .decodeHeader] → t.lfsrRx = s.lfsrRx)
      ∧ ((i ≠ .pipeReset ∧ ∀ b, i ≠ .pipeAddByte b) →
          t.pipe = s.pipe ∧ t.status.pipeHdrKnown = s.status.pipeHdrKnown ∧ t.status.pipeDone = s.status.pipeDone)
      ∧ ((i ≠ .barkerReset ∧ ∀ b, i ≠ .barkerStep b) →
          t.rx = s.rx ∧ t.status.barkerFound = s.status.barkerFound)
      ∧ { t.rx with barkerState := s.rx.barkerState } = s.rx
      ∧ (t.event &&& s.event = s.event ∧ t.event &&& 0x3FC#11 = s.event &&& 0x3FC#11)
      ∧ (s.status.fault = true → t.status.fault = true ∧ t.faultInfo = s.faultInfo)
      ∧ (t.result.code.toNat < 0x10 → t.status.fault = s.status.fault ∧ t.faultInfo = s.faultInfo)

/-! ### The interleaver -/

/-- R66, R67. One clock of the scrambler and of the descrambler, for every state and input bit: the output, every bit of the
next state, and the rules' one-expression forms. A run clocks its bits in order and ends in the last clock's state. -/
def Obligations.LfsrClocks : Prop :=
  (∀ (step : BitVec 9 → Bool → Bool × BitVec 9) (s : BitVec 9),
      clockBits step s [] = ([], s)
        ∧ ∀ (b : Bool) (rest : List Bool),
            clockBits step s (b :: rest)
              = ((step s b).1 :: (clockBits step (step s b).2 rest).1, (clockBits step (step s b).2 rest).2))
  ∧ (∀ (s : BitVec 9) (b : Bool),
      (scrStep s b).1 = (s.getLsbD 0 ^^ s.getLsbD 4)
        ∧ (scrStep s b).2.getLsbD 8 = (b ^^ s.getLsbD 0)
        ∧ (scrStep s b).2.getLsbD 3 = (s.getLsbD 4 ^^ s.getLsbD 0)
        ∧ (∀ j ∈ [0, 1, 2, 4, 5, 6, 7], (scrStep s b).2.getLsbD j = s.getLsbD (j + 1))
        ∧ (scrStep s b).2
          = (((BitVec.ofBool (b ^^ s.getLsbD 0)).setWidth 10 <<< 9
              ||| (s.setWidth 10 ^^^ ((BitVec.ofBool (s.getLsbD 0)).setWidth 10 <<< 4))) >>> 1).setWidth 9)
    ∧ ∀ (r : BitVec 9) (c : Bool),
        (dscrStep r c).1 = (c ^^ r.getLsbD 0)
          ∧ (dscrStep r c).2.getLsbD 8 = c
          ∧ (dscrStep r c).2.getLsbD 3 = (r.getLsbD 4 ^^ c)
          ∧ (∀ j ∈ [0, 1, 2, 4, 5, 6, 7], (dscrStep r c).2.getLsbD j = r.getLsbD (j + 1))
          ∧ (dscrStep r c).2
            = ((r >>> 1) ||| ((BitVec.ofBool c).setWidth 9 <<< 8)) ^^^ ((BitVec.ofBool c).setWidth 9 <<< 3)

/-- R71, R11. The closed form of both functions over bit sequences, in which bit 8i + k is bit 7 - k of byte i, with
nine virtual ones before the first bit: scrambled bit j is x[j] XOR c[j-4] XOR c[j-9], and descrambled bit j is c[j] XOR
c[j-4] XOR c[j-9]. -/
def Obligations.ScramblerClosedForm : Prop :=
  (∀ bytes : List Byte,
      (bits bytes).length = 8 * bytes.length
        ∧ ∀ i k : Nat, i < bytes.length → k < 8 →
            (bits bytes).getD (8 * i + k) false = (bytes.getD i 0#8).getLsbD (7 - k))
  ∧ (∀ (bytes : List Byte) (j : Nat), j < 8 * bytes.length →
      let history := List.replicate 9 true ++ bits (scramble bytes).1
      history.getD (j + 9) false
        = ((bits bytes).getD j false ^^ history.getD (j + 5) false ^^ history.getD j false))
    ∧ ∀ (bytes : List Byte) (j : Nat), j < 8 * bytes.length →
        let history := List.replicate 9 true ++ bits bytes
        (bits (descramble bytes).1).getD j false
          = (history.getD (j + 9) false ^^ history.getD (j + 5) false ^^ history.getD j false)

/-- R72. Descrambling undoes scrambling, for every byte sequence; and whatever the two initial states are, every bit
from the tenth on comes back. -/
def Obligations.DescrambleUndoesScramble : Prop :=
  (∀ bytes : List Byte, (descramble (scramble bytes).1).1 = bytes)
    ∧ ∀ (s r : BitVec 9) (x : List Bool) (j : Nat), 9 ≤ j → j < x.length →
        let kept := (clockBits scrStep s (x ++ List.replicate 5 false)).1.drop 5
        (clockBits dscrStep r kept).1[j]? = x[j]?

/-- R73, R74. Both functions are causal: the output for x is the start of the output for x followed by anything. And
from any descrambler state, one wrong input bit at position j makes the output wrong at j, j+4 and j+9, where those
exist, and nowhere else. -/
def Obligations.ScramblerCausalityAndErrorSpread : Prop :=
  (∀ x y : List Byte,
      (scramble (x ++ y)).1.take x.length = (scramble x).1 ∧ (descramble (x ++ y)).1.take x.length = (descramble x).1)
    ∧ ∀ (r : BitVec 9) (c : List Bool) (j i : Nat), j < c.length → i < c.length →
        (((clockBits dscrStep r (c.set j (!c.getD j false))).1.getD i false ≠ (clockBits dscrStep r c).1.getD i false)
          ↔ (i = j ∨ i = j + 4 ∨ i = j + 9))

/-! ### The codec -/

/-- R78, R79. Bytes with XOR and `gfMul` are the field of 256 elements whose polynomial is RS_PRIM = 0x11D:
multiplication by z (0x02) shifts left and, where bit 7 falls out, takes XOR with 0x1D; multiplication is commutative
and associative, distributes over XOR, has the unit 1 and an inverse for every nonzero element; and α = 2 has order 255.
Powers are repeated products, and a polynomial, highest degree first, is evaluated by Horner's rule. -/
def Obligations.GaloisFieldLaws : Prop :=
  (∀ a : Byte, gfMul 0x02#8 a = (if a.getLsbD 7 then (a <<< 1) ^^^ 0x1D#8 else a <<< 1))
  ∧ (∀ (a : Byte) (n : Nat), gfPow a 0 = 1#8 ∧ gfPow a (n + 1) = gfMul (gfPow a n) a)
  ∧ (∀ (p : List Byte) (c x : Byte), polyEval [] x = 0#8 ∧ polyEval (p ++ [c]) x = gfMul (polyEval p x) x ^^^ c)
  ∧ (∀ a b c : Byte,
      gfMul a b = gfMul b a ∧ gfMul (gfMul a b) c = gfMul a (gfMul b c)
        ∧ gfMul a (b ^^^ c) = gfMul a b ^^^ gfMul a c ∧ gfMul a 1#8 = a ∧ (a ≠ 0#8 → gfMul a (gfInv a) = 1#8))
    ∧ gfPow 2#8 255 = 1#8 ∧ ∀ i j : Nat, i < 255 → j < 255 → gfPow 2#8 i = gfPow 2#8 j → i = j

/-- R79, R80. For every message and 1 ≤ nsym with k + nsym ≤ 255, the encoder's word has the message first and nsym
parity bytes after it, and the words it makes are exactly the words of that length that vanish at α^0 .. α^(nsym-1), the
roots of g. -/
def Obligations.EncoderMakesExactlyTheCodewords : Prop :=
  (∀ (m : List Byte) (nsym : Nat),
      (rsEnc m nsym).take m.length = m ∧ (rsEnc m nsym).length = m.length + nsym)
    ∧ ∀ (c : List Byte) (nsym : Nat), 1 ≤ nsym → nsym + 1 ≤ c.length → c.length ≤ 255 →
        (rsEnc (c.take (c.length - nsym)) nsym = c ↔ ∀ j < nsym, polyEval c (gfPow 2#8 j) = 0#8)

/-- R81, R82. The decoder is the bounded-distance decoder: for a word of n = k + nsym ≤ 255 bytes it answers OK with the
message and the distance for every codeword within t = floor(nsym/2) (so there is at most one), and FAIL when there is
none. -/
def Obligations.DecoderIsBoundedDistance : Prop :=
  ∀ (r : List Byte) (nsym : Nat), 1 ≤ nsym → nsym + 1 ≤ r.length → r.length ≤ 255 →
    (∀ m : List Byte, m.length = r.length - nsym → dist r (rsEnc m nsym) ≤ nsym / 2 →
        rsDec r nsym = .ok m (dist r (rsEnc m nsym)))
      ∧ ((∀ m : List Byte, m.length = r.length - nsym → nsym / 2 < dist r (rsEnc m nsym)) → rsDec r nsym = .fail)

/-- R81. What the decoder answers is right whatever finds it: OK only with a message of k bytes whose codeword lies
within t, at the distance it reports; and a codeword is answered as it stands. The distance is the number of positions
where two words of one length differ. -/
def Obligations.DecoderAnswersAreVerified : Prop :=
  (∀ a b : List Byte, a.length = b.length → dist a b = ((a.zip b).filter fun e => e.1 != e.2).length)
  ∧ ∀ (r : List Byte) (nsym : Nat), nsym ≤ r.length →
    (∀ (m : List Byte) (c : Nat), rsDec r nsym = .ok m c →
        m.length = r.length - nsym ∧ c = dist r (rsEnc m nsym) ∧ c ≤ nsym / 2)
      ∧ ∀ m : List Byte, rsDec (rsEnc m nsym) nsym = .ok m 0

/-- R84 to R87. The block count, lengths and counts of every L are the formulas of R84, the large blocks coming first.
For 1 ≤ L ≤ 1023 the blocks add up to L, at least one is small, there are at most 5, small_block_len ≤ 205 and ecc ≤ 51;
raw(L) = L + block_cnt·ecc is strictly increasing up to 1023 with raw(0) = 0 and raw(1023) = 1273; and L is overlong
exactly for 205, 410, 615 and 820. -/
def Obligations.PartitionBounds : Prop :=
  (∀ len : Nat, 1 ≤ len →
      partition len
        = { blockCnt := (len + 204) / 205
            smallLen := len / ((len + 204) / 205)
            largeLen := len / ((len + 204) / 205) + 1
            smallCnt := (len + 204) / 205 - len % ((len + 204) / 205)
            largeCnt := len % ((len + 204) / 205)
            ecc := len / ((len + 204) / 205) / 5 + 10 })
  ∧ (∀ len : Nat, (blockLens len).length = (partition len).blockCnt
      ∧ ∀ i < (partition len).blockCnt,
          (blockLens len).getD i 0
            = (if i < (partition len).largeCnt then (partition len).largeLen else (partition len).smallLen))
  ∧ (∀ len : Nat, 1 ≤ len → len ≤ 1023 →
      (partition len).largeCnt * (partition len).largeLen + (partition len).smallCnt * (partition len).smallLen = len
        ∧ (partition len).largeCnt < (partition len).blockCnt ∧ 1 ≤ (partition len).smallCnt
        ∧ (partition len).blockCnt ≤ 5 ∧ (partition len).smallLen ≤ 205 ∧ (partition len).ecc ≤ 51
        ∧ (overlong len = true ↔ len = 205 ∨ len = 410 ∨ len = 615 ∨ len = 820))
    ∧ (∀ len : Nat, 1 ≤ len → len ≤ 1023 → rawSize len = len + (partition len).blockCnt * (partition len).ecc)
    ∧ (∀ a b : Nat, a < b → b ≤ 1023 → rawSize a < rawSize b)
    ∧ rawSize 0 = 0 ∧ rawSize 1023 = 1273

/-- R89. The payload decoder on raw(L) bytes answers L bytes and treats each block on its own: a block that decodes puts
its message at its place and leaves its fail bit 0; one that fails sets its bit and takes free bytes (log 5), which this
statement says nothing about. `ok` says that no block failed, and `corr` adds up the blocks that decoded. -/
def Obligations.PayloadBlocksDecodeIndependently : Prop :=
  ∀ (wire : List Byte) (len k : Nat), len ≤ 1023 → overlong len = false → wire.length = rawSize len →
    (payDec wire len k).data.length = len
      ∧ ((payDec wire len k).ok = true ↔ (payDec wire len k).failMask = 0#32)
      ∧ (payDec wire len k).corr
          = ((List.range (blockLens len).length).map fun i =>
              match rsDec (wireBlock len i wire) (partition len).ecc with
              | .ok _ c => c
              | .fail => 0).sum
      ∧ ∀ i < (blockLens len).length,
          (∀ (m : List Byte) (c : Nat), rsDec (wireBlock len i wire) (partition len).ecc = .ok m c →
              (payDec wire len k).failMask.getLsbD i = false
                ∧ ((payDec wire len k).data.drop (blockStart len i)).take ((blockLens len).getD i 0) = m)
            ∧ (rsDec (wireBlock len i wire) (partition len).ecc = .fail →
                (payDec wire len k).failMask.getLsbD i = true)

/-! ### The header and the frame -/

/-- R97 to R101. The hop code of 0, 1, 2, 3 is (A, B) = 00, 10, 11, 01 and its inverse decodes every pair. The wire
layout, byte by byte, is said for the packed bytes of every record and for unpacking any bytes; a record packs exactly
when HOPS_REM ≤ HOPS. Unpacking what packs gives the record back, and packing the record of 32 bytes gives the bytes
back exactly when their reserved bits 18[1:0] and 19[1:0] are 0 and dec(19[3:2]) ≤ dec(19[7:6]). That the layout is said
of the records that do not pack too is the model's choice (log 17). -/
def Obligations.HeaderPackUnpackInverse : Prop :=
  (hopEnc 0#2 = 0b00#2 ∧ hopEnc 1#2 = 0b10#2 ∧ hopEnc 2#2 = 0b11#2 ∧ hopEnc 3#2 = 0b01#2)
    ∧ (∀ c : BitVec 2, hopEnc (hopDec c) = c ∧ hopDec (hopEnc c) = c)
    ∧ (∀ h : HeaderRegs,
        let lane (v : BitVec 32) (i : Nat) : Byte := v.extractLsb' (8 * i) 8
        let half (v : BitVec 16) (i : Nat) : Byte := v.extractLsb' (8 * i) 8
        let flag (i : Nat) : BitVec 1 := BitVec.ofBool (h.flags.getLsbD i)
        packBytes h
          = [lane h.dstA 0, lane h.dstA 1, lane h.dstA 2, lane h.dstA 3, half h.dstB 0, half h.dstB 1,
              lane h.lsrcA 0, lane h.lsrcA 1, lane h.lsrcA 2, lane h.lsrcA 3, half h.lsrcB 0, half h.lsrcB 1,
              lane h.srcA 0, lane h.srcA 1, lane h.srcA 2, lane h.srcA 3, half h.srcB 0, half h.srcB 1,
              flag 1 ++ flag 0 ++ flag 2 ++ flag 3 ++ flag 4 ++ flag 5 ++ 0#2,
              hopEnc (h.flags.extractLsb' 8 2) ++ flag 6 ++ flag 7 ++ hopEnc (h.flags.extractLsb' 10 2) ++ 0#2,
              half h.size 1, half h.size 0, half h.mySeq 1, half h.mySeq 0,
              lane h.data01 1, lane h.data01 0, lane h.data01 3, lane h.data01 2,
              lane h.data23 1, lane h.data23 0, lane h.data23 3, lane h.data23 2])
    ∧ (∀ b : List Byte,
        let at' (i : Nat) : Byte := b.getD i 0#8
        let flag (i j : Nat) : BitVec 1 := BitVec.ofBool ((b.getD i 0#8).getLsbD j)
        unpack b
          = { dstA := at' 3 ++ at' 2 ++ at' 1 ++ at' 0
              dstB := at' 5 ++ at' 4
              lsrcA := at' 9 ++ at' 8 ++ at' 7 ++ at' 6
              lsrcB := at' 11 ++ at' 10
              srcA := at' 15 ++ at' 14 ++ at' 13 ++ at' 12
              srcB := at' 17 ++ at' 16
              flags :=
                hopDec ((at' 19).extractLsb' 2 2) ++ hopDec ((at' 19).extractLsb' 6 2) ++ flag 19 4 ++ flag 19 5
                  ++ flag 18 2 ++ flag 18 3 ++ flag 18 4 ++ flag 18 5 ++ flag 18 7 ++ flag 18 6
              size := at' 20 ++ at' 21
              mySeq := at' 22 ++ at' 23
              data01 := at' 26 ++ at' 27 ++ at' 24 ++ at' 25
              data23 := at' 30 ++ at' 31 ++ at' 28 ++ at' 29 })
    ∧ (∀ h : HeaderRegs,
        pack h
          = (if (h.flags.extractLsb' 10 2).toNat ≤ (h.flags.extractLsb' 8 2).toNat then some (packBytes h) else none))
    ∧ (∀ (h : HeaderRegs) (b : List Byte), pack h = some b → b.length = 32 ∧ unpack b = h)
    ∧ (∀ h : HeaderRegs, unpack (packBytes h) = h)
    ∧ ∀ b : List Byte, b.length = 32 →
        let reservedZero : Prop := (b.getD 18 0#8).extractLsb' 0 2 = 0#2 ∧ (b.getD 19 0#8).extractLsb' 0 2 = 0#2
        (packBytes (unpack b) = b ↔ reservedZero)
          ∧ (pack (unpack b) = some b
            ↔ reservedZero
              ∧ (hopDec ((b.getD 19 0#8).extractLsb' 2 2)).toNat ≤ (hopDec ((b.getD 19 0#8).extractLsb' 6 2)).toNat)

/-- R111, R112. The round trip of a frame, with no symbol changed: DECODE_FRAME of the frame of a header h and a payload
of h.SIZE bytes gives back h and the payload with PAYLOAD_OK, no failed block and no corrected symbol; DECODE_HEADER of
its first 64 bytes, with ARG_LEN = 64 and nothing said of the bytes after them, gives back h and the partition, so 64 +
PART_RAW is the frame's length. R111 has HOPS_REM ≤ HOPS; the statement holds for every record in the layout of R97 (log
17). -/
def Obligations.FrameRoundTrip : Prop :=
  ∀ (s : State) (h : HeaderRegs) (p : List Byte), s.rxEn = false → h.size.toNat = p.length → p.length ≤ 1023 →
    overlong p.length = false →
    (s.len = 64 + rawSize p.length → s.src + s.len ≤ 8192 → s.dst + p.length ≤ 8192 →
        Memory.readBytes s.mem s.src s.len = some (frameOf (frameStream (packBytes h) p).1) →
        exec .decodeFrame s
          = .next (okDone 0x41#8
              { s with
                mem := Memory.writeBytes s.mem s.dst p
                rxh := h
                part := partRegsOf p.length
                codec := { s.codec with blockFail := 0#32, corrHdr := 0#8, corrPay := 0#16 }
                status := { s.status with payloadOk := true }
                lfsrRx := (descramble (frameStream (packBytes h) p).1).2 }))
      ∧ (s.len = 64 → s.src + 64 ≤ 8192 →
          Memory.readBytes s.mem s.src 64 = some ((frameOf (frameStream (packBytes h) p).1).take 64) →
          exec .decodeHeader s
            = .next (okDone 0x42#8
                { s with
                  rxh := h
                  part := partRegsOf p.length
                  codec := { s.codec with corrHdr := 0#8 }
                  lfsrRx := (descramble ((frameStream (packBytes h) p).1.take 32)).2 }))
          ∧ (partRegsOf p.length).raw = BitVec.ofNat 32 (rawSize p.length)
          ∧ (frameOf (frameStream (packBytes h) p).1).length = 64 + rawSize p.length

/-- R111, second half. The same with errors: when the header codeword has at most 16 symbols changed and every payload
block at most floor(ecc/2), DECODE_FRAME still gives back the header and the payload, and CORR_HDR and CORR_PAY count
the changes. As in FrameRoundTrip, the record is any (log 17). -/
def Obligations.FrameSurvivesSymbolErrors : Prop :=
  ∀ (s : State) (h : HeaderRegs) (p received : List Byte), s.rxEn = false → h.size.toNat = p.length →
    p.length ≤ 1023 → overlong p.length = false → s.len = 64 + rawSize p.length → s.src + s.len ≤ 8192 →
    s.dst + p.length ≤ 8192 → Memory.readBytes s.mem s.src s.len = some received →
    let sent := frameOf (frameStream (packBytes h) p).1
    dist (received.take 64) (sent.take 64) ≤ 16 →
    (∀ i < (blockLens p.length).length,
        dist (wireBlock p.length i (received.drop 64)) (wireBlock p.length i (sent.drop 64))
          ≤ (partition p.length).ecc / 2) →
    exec .decodeFrame s
      = .next (okDone 0x41#8
          { s with
            mem := Memory.writeBytes s.mem s.dst p
            rxh := h
            part := partRegsOf p.length
            codec :=
              { s.codec with
                blockFail := 0#32
                corrHdr := BitVec.ofNat 8 (dist (received.take 64) (sent.take 64))
                corrPay := BitVec.ofNat 16 (dist (received.drop 64) (sent.drop 64)) }
            status := { s.status with payloadOk := true }
            lfsrRx := (descramble (frameStream (packBytes h) p).1).2 })

/-! ### The receiver -/

/-- R121, R122, R123. The detector's three steps, written out for every DSP, the receiver enabled and squelch off.
Search: the window is counted, coherence counts up or falls back to 0, lock is tested before the budget, and running out
of budget emits NO_CARRIER and resets the agent. Lock: GAIN is estimated, the window becomes the phase reference.
Matching: the bit decision feeds the Moore machine; found gives SYNC_FOUND, running out of budget NO_SYNC. -/
def Obligations.DetectorSteps : Prop :=
  ∀ (d : Dsp) (w : Window) (s : State), s.rxEn = true →
    ((s.rx.state = .idle ∨ s.rx.state = .coherenceAccumulating) →
        let win := satSucc s.rx.winCount
        let isCoherent : Prop := s.cfg.cohThresh.toNat < (d.coh w).val
        let coh := if isCoherent then satSucc s.rx.cohCount else 0#16
        (max s.cfg.carrierThreshold.toNat 1 ≤ coh.toNat →
            rxStep d w false s
              = .next { s with
                  rxPos := s.rxPos + 1
                  rx := { s.rx with winCount := win, cohCount := coh, state := .carrierLocked }
                  event := s.event ||| 0x080#11 })
          ∧ (coh.toNat < max s.cfg.carrierThreshold.toNat 1 → s.cfg.maxOffset.toNat ≤ win.toNat →
              rxStep d w false s
                = .next { s with
                    rxPos := s.rxPos + 1
                    rx := ⟨.idle, 0#16, 0#32, 0#5, 0#32, 0#16, 0#32, 0#3, 0#8⟩
                    prev := none
                    pipe := ⟨0#16, 0#16, 0#16, s.pipe.result⟩
                    status := { s.status with pipeHdrKnown := false }
                    event := s.event ||| 0x010#11 })
          ∧ (coh.toNat < max s.cfg.carrierThreshold.toNat 1 → win.toNat < s.cfg.maxOffset.toNat →
              rxStep d w false s
                = .next { s with
                    rxPos := s.rxPos + 1
                    rx :=
                      { s.rx with
                        winCount := win
                        cohCount := coh
                        state := (if isCoherent then .coherenceAccumulating else .idle) } }))
      ∧ (s.rx.state = .carrierLocked →
          let first := (s.cfg.gainSkip.extractLsb' 0 16).toNat
          let last := (s.cfg.gainSkip.extractLsb' 16 16).toNat
          rxStep d w false s
            = .next { s with
                rxPos := s.rxPos + 1
                prev := some w
                rx :=
                  { s.rx with
                    gain :=
                      (if d.width ≤ first + last then d.gainQ 0
                      else
                        d.gainQ
                          ((∑ n ∈ Finset.Ico first (d.width - last), |d.mf w n|)
                            / ((d.width - last - first : Nat) : Rat)))
                    barkerState := 0#5
                    barkerCount := 0#32
                    state := .barkerMatching } })
      ∧ ∀ p : Window, s.rx.state = .barkerMatching → s.prev = some p →
          let bit : Bool := decide ((∑ n ∈ Finset.range d.width, d.bpf w n * d.bpf p n) < 0)
          let k := (barkerStep s.rx.barkerState bit).1
          let found := (barkerStep s.rx.barkerState bit).2
          let count := satSucc s.rx.barkerCount
          (found = true →
              rxStep d w false s
                = .next { s with
                    rxPos := s.rxPos + 1
                    prev := some w
                    rx :=
                      { s.rx with
                        barkerCount := count
                        barkerState := k
                        state := .synchronized
                        sepRemaining := s.cfg.sepSymbols }
                    status := { s.status with barkerFound := true }
                    event := s.event ||| 0x100#11 })
            ∧ (found = false → s.cfg.barkerMax.toNat ≤ count.toNat →
                rxStep d w false s
                  = .next { s with
                      rxPos := s.rxPos + 1
                      prev := none
                      rx := ⟨.idle, 0#16, 0#32, 0#5, 0#32, 0#16, 0#32, 0#3, 0#8⟩
                      pipe := ⟨0#16, 0#16, 0#16, s.pipe.result⟩
                      status := { s.status with barkerFound := false, pipeHdrKnown := false }
                      event := s.event ||| 0x020#11 })
            ∧ (found = false → count.toNat < s.cfg.barkerMax.toNat →
                rxStep d w false s
                  = .next { s with
                      rxPos := s.rxPos + 1
                      prev := some w
                      rx := { s.rx with barkerCount := count, barkerState := k }
                      status := { s.status with barkerFound := false } })

/-- R128. The Moore machine with the default sequence, with the re-test off and on. Fed the sequence from state 0 it
finds the pattern exactly at the last input. From any state k < 13, over the 13 - k inputs that could complete it, it
finds the pattern exactly when they are the rest of the sequence: so one wrong input before the end never finds it. A
wrong input leaves it in state 0, or in state 1 with the re-test on, at k > 0 and for an input equal to the sequence's
first; the right input advances it. The block's own machine is the one with the re-test off (log 11). -/
def Obligations.BarkerMatcherFindsOnlyThePattern : Prop :=
  let seq := [true, true, true, true, true, false, false, true, true, false, true, false, true]
  (∀ (k : Nat) (b : Bool), k < 13 →
      Machine.barkerStep (BitVec.ofNat 5 k) b
        = (BitVec.ofNat 5 (barkerStepWith Config.barkerSeq false k b).1, (barkerStepWith Config.barkerSeq false k b).2))
  ∧ ∀ retest : Bool,
    (∀ k < 13, barkerStepWith Config.barkerSeq retest k (seq.getD k false) = (if k = 12 then (0, true) else (k + 1, false)))
      ∧ runBarker retest 0 seq = List.replicate 12 false ++ [true]
      ∧ (∀ (k : Nat) (l : List Bool), k < 13 → l.length = 13 - k → (true ∈ runBarker retest k l ↔ l = seq.drop k))
      ∧ ∀ (k : Nat) (b : Bool), k < 13 → b ≠ seq.getD k false →
          barkerStepWith Config.barkerSeq retest k b
            = ((if retest = true ∧ 0 < k ∧ b = true then 1 else 0), false)

/-- R124, R132, R133, R134. A separator window is counted off and becomes the phase reference. With none left, and in
RX_DATA, the window's bit (1 exactly when the sum of products with the reference is negative) enters SHIFT at bit 0;
before the eighth bit that is all. -/
def Obligations.SeparatorAndDataBits : Prop :=
  ∀ (d : Dsp) (w p : Window) (s : State), s.rxEn = true → s.prev = some p →
    let bit : Bool := decide ((∑ n ∈ Finset.range d.width, d.bpf w n * d.bpf p n) < 0)
    (s.rx.state = .synchronized → s.rx.sepRemaining ≠ 0#16 →
        rxStep d w false s
          = .next { s with
              rxPos := s.rxPos + 1
              prev := some w
              rx := { s.rx with sepRemaining := s.rx.sepRemaining - 1#16 } })
      ∧ ((s.rx.state = .rxData ∨ s.rx.state = .synchronized ∧ s.rx.sepRemaining = 0#16) → s.rx.bitCount ≠ 7#3 →
          rxStep d w false s
            = .next { s with
                rxPos := s.rxPos + 1
                prev := some w
                rx :=
                  { s.rx with
                    state := .rxData
                    shift := s.rx.shift.extractLsb' 0 7 ++ BitVec.ofBool bit
                    bitCount := s.rx.bitCount + 1#3 } })

/-- R114, R116, R119, R120. With RX_EN = 0 a window, squelched or not, is consumed with no effect. With RX_EN = 1 a
squelched window emits SQUELCH and resets the agent, in every RX state, and nothing else. -/
def Obligations.DisabledAndSquelchedWindows : Prop :=
  (∀ (d : Dsp) (w : Window) (sq : Bool) (s : State), s.rxEn = false →
      rxStep d w sq s = .next { s with rxPos := s.rxPos + 1 })
    ∧ ∀ (d : Dsp) (w : Window) (s : State), s.rxEn = true →
        rxStep d w true s
          = .next { s with
              rxPos := s.rxPos + 1
              rx := ⟨.idle, 0#16, 0#32, 0#5, 0#32, 0#16, 0#32, 0#3, 0#8⟩
              prev := none
              pipe := ⟨0#16, 0#16, 0#16, s.pipe.result⟩
              status := { s.status with pipeHdrKnown := false }
              event := s.event ||| 0x040#11 }

/-- R126, testable property 8. From a fresh search, windows that are never coherent give NO_CARRIER at the
max(CFG_MAX_OFFSET, 1)-th window and not before, and leave a fresh search again. -/
def Obligations.NoCarrierExactlyAtBudget : Prop :=
  ∀ (d : Dsp) (s : State) (ws : List Window), s.rxEn = true → s.rx.state = .idle → s.rx.winCount = 0#32 →
    ws.length = max s.cfg.maxOffset.toNat 1 → (∀ w ∈ ws, (d.coh w).val ≤ s.cfg.cohThresh.toNat) →
    (∀ n < ws.length, ∃ t, runWindows d (ws.take n) s = .next t ∧ t.event = s.event ∧ t.rx.state = .idle
        ∧ t.rx.winCount.toNat = n)
      ∧ ∃ t, runWindows d ws s = .next t ∧ t.event = s.event ||| 0x010#11 ∧ t.rx.state = .idle
          ∧ t.rx.winCount = 0#32 ∧ t.rxEn = true ∧ t.cfg = s.cfg

/-- R126. The receiver is never stuck: from any state that meets the invariant, whatever un-squelched windows follow,
each phase ends within its budget. Search locks or gives NO_CARRIER within max(CFG_MAX_OFFSET, 1) windows; lock takes
one; matching ends within max(CFG_BARKER_MAX, 1); the separator within CFG_SEP_SYMBOLS + 1 of its start; a frame within
8·1337. -/
def Obligations.ReceiverNeverStuck : Prop :=
  ∀ (d : Dsp) (s : State) (ws : List Window), Inv s → s.rxEn = true →
    ((s.rx.state = .idle ∨ s.rx.state = .coherenceAccumulating) → ws.length = max s.cfg.maxOffset.toNat 1 →
        ∃ n ≤ ws.length, ∃ t, runWindows d (ws.take n) s = .next t
          ∧ (t.rx.state = .carrierLocked ∧ t.event.getLsbD 7 = true
            ∨ 0 < n ∧ t.rx.state = .idle ∧ t.rx.winCount = 0#32 ∧ t.event.getLsbD 4 = true))
      ∧ (s.rx.state = .carrierLocked → ∀ w : Window, ∃ t, rxStep d w false s = .next t ∧ t.rx.state = .barkerMatching)
      ∧ (s.rx.state = .barkerMatching → ws.length = max s.cfg.barkerMax.toNat 1 →
          ∃ n ≤ ws.length, ∃ t, runWindows d (ws.take n) s = .next t
            ∧ (t.rx.state = .synchronized ∧ t.event.getLsbD 8 = true
              ∨ t.rx.state = .idle ∧ t.event.getLsbD 5 = true))
      ∧ (s.rx.state = .synchronized → ws.length = s.rx.sepRemaining.toNat + 1 →
          ∃ t, runWindows d ws s = .next t ∧ (t.rx.state = .rxData ∨ t.rx.state = .idle))
      ∧ (s.rx.state = .rxData → ws.length = 8 * 1337 →
          ∃ n ≤ ws.length, ∃ t, runWindows d (ws.take n) s = .next t ∧ t.rx.state = .idle)

/-- R133, R134, R136, R139. The eighth bit of a byte, in RX_DATA with the phase reference p: SHIFT and BIT_COUNT go to 0
and the byte goes to the pipe, one step for each case of R136. A byte before the 64th, an accepted 64th byte with a
payload to come and a countdown byte leave the agent in RX_DATA with the phase reference w. On the byte that makes the
pipe's header fail, HDR_ERR is emitted and the agent resets with PIPE_RESULT = (-1, -1). On the byte that completes a
frame, the 64th where L = 0 and else the last of the countdown, the frame is decoded from FRAME_RX to PAY_RX as
DECODE_FRAME does, FRAME_READY is emitted, with RX_OVERRUN if it was still set, and the agent resets. RESULT, ARG_* and
the CMD_* events are not touched. A failed block's bytes are free values (log 5). -/
def Obligations.ReceivedFrameIsDelivered : Prop :=
  ∀ (d : Dsp) (w p : Window) (s : State), s.rxEn = true → s.rx.state = .rxData → s.prev = some p →
    s.rx.bitCount = 7#3 →
    let bit : Bool := decide ((∑ n ∈ Finset.range d.width, d.bpf w n * d.bpf p n) < 0)
    let byte : Byte := s.rx.shift.extractLsb' 0 7 ++ BitVec.ofBool bit
    let stored := Memory.write s.mem (0x1000 + s.pipe.count.toNat) byte
    let nextByte : RxRegs := { s.rx with shift := 0#8, bitCount := 0#3 }
    let resetRx : RxRegs := ⟨.idle, 0#16, 0#32, 0#5, 0#32, 0#16, 0#32, 0#3, 0#8⟩
    let ready : BitVec 11 := if s.event.getLsbD 2 then s.event ||| 0x204#11 else s.event ||| 0x004#11
    (s.status.pipeHdrKnown = false → s.pipe.count.toNat < 63 →
        rxStep d w false s
          = .next { s with
              rxPos := s.rxPos + 1
              prev := some w
              rx := nextByte
              mem := stored
              pipe :=
                { s.pipe with
                  count := s.pipe.count + 1#16
                  result := BitVec.ofNat 32 (63 - s.pipe.count.toNat) }
              status := { s.status with pipeDone := false } })
      ∧ (∀ header : List Byte, s.status.pipeHdrKnown = false → s.pipe.count = 63#16 →
          Memory.readBytes stored 0x1000 64 = some header →
          ((hdrCheck header = .rsBad ∨ hdrCheck header = .sizeBad) →
              rxStep d w false s
                = .next { s with
                    rxPos := s.rxPos + 1
                    prev := none
                    rx := resetRx
                    mem := stored
                    pipe := ⟨0#16, 0#16, 0#16, 0xFFFFFFFF#32⟩
                    status := { s.status with pipeHdrKnown := false, pipeDone := false }
                    event := s.event ||| 0x008#11 })
            ∧ ∀ (h : HeaderRegs) (hs : List Byte) (ch : Nat) (lfsr : BitVec 9), hdrCheck header = .good h hs ch lfsr →
                (h.size ≠ 0#16 →
                  rxStep d w false s
                    = .next { s with
                        rxPos := s.rxPos + 1
                        prev := some w
                        rx := nextByte
                        mem := stored
                        pipe :=
                          { count := 64#16
                            remaining := BitVec.ofNat 16 (rawSize h.size.toNat)
                            frameLen := BitVec.ofNat 16 (64 + rawSize h.size.toNat)
                            result :=
                              BitVec.ofNat 16 (64 + rawSize h.size.toNat) ++ BitVec.ofNat 16 (rawSize h.size.toNat) }
                        status := { s.status with pipeHdrKnown := true, pipeDone := false } })
                  ∧ (h.size = 0#16 →
                    rxStep d w false s
                      = .next { s with
                          rxPos := s.rxPos + 1
                          prev := none
                          rx := resetRx
                          mem := stored
                          pipe := ⟨0#16, 0#16, 0#16, 0x00400000#32⟩
                          rxh := h
                          part := partRegsOf 0
                          codec := { s.codec with blockFail := 0#32, corrHdr := BitVec.ofNat 8 ch, corrPay := 0#16 }
                          status := { s.status with payloadOk := true, pipeHdrKnown := false, pipeDone := true }
                          lfsrRx := lfsr
                          event := ready }))
      ∧ (s.status.pipeHdrKnown = true → s.pipe.count.toNat < 4096 → 2 ≤ s.pipe.remaining.toNat →
          rxStep d w false s
            = .next { s with
                rxPos := s.rxPos + 1
                prev := some w
                rx := nextByte
                mem := stored
                pipe :=
                  { s.pipe with
                    count := s.pipe.count + 1#16
                    remaining := s.pipe.remaining - 1#16
                    result := s.pipe.frameLen ++ (s.pipe.remaining - 1#16) }
                status := { s.status with pipeDone := false } })
      ∧ ∀ (header wire hs : List Byte) (h : HeaderRegs) (ch : Nat) (lfsr : BitVec 9), s.status.pipeHdrKnown = true →
          s.pipe.count.toNat < 4096 → s.pipe.remaining = 1#16 →
          Memory.readBytes stored 0x1000 64 = some header → hdrCheck header = .good h hs ch lfsr →
          s.pipe.frameLen.toNat = 64 + rawSize h.size.toNat →
          Memory.readBytes stored 0x1040 (rawSize h.size.toNat) = some wire →
          let pay := payDec wire h.size.toNat s.draws
          let data := descramble (hs ++ pay.data)
          rxStep d w false s
            = .next { s with
                rxPos := s.rxPos + 1
                prev := none
                rx := resetRx
                mem := Memory.writeBytes stored 0x0400 ((data.1.drop 32).take h.size.toNat)
                pipe := ⟨0#16, 0#16, 0#16, s.pipe.frameLen ++ 0#16⟩
                rxh := unpack (data.1.take 32)
                part := partRegsOf h.size.toNat
                codec :=
                  { s.codec with
                    blockFail := pay.failMask
                    corrHdr := BitVec.ofNat 8 ch
                    corrPay := BitVec.ofNat 16 pay.corr }
                status := { s.status with payloadOk := pay.ok, pipeHdrKnown := false, pipeDone := true }
                lfsrRx := data.2
                draws := pay.draws
                event := ready }

/-- R138. A frame whose header passes, fed to a fresh pipe byte by byte: byte j reports 64 - j to come before the
header, then len - j with the length; the last byte reports (0, len) and done, the pipe is fresh again and FRAME_RX
holds the frame. For a header that fails, the 64th byte reports (-1, -1) and the pipe is back at count 0. -/
def Obligations.PipeAssemblesWholeFrames : Prop :=
  ∀ (s : State) (frame : List Byte), s.status.pipeHdrKnown = false → s.pipe.count = 0#16 → s.pipe.remaining = 0#16 →
    s.pipe.frameLen = 0#16 → 64 ≤ frame.length →
    (∀ (h : HeaderRegs) (hs : List Byte) (ch : Nat) (lfsr : BitVec 9), hdrCheck (frame.take 64) = .good h hs ch lfsr →
        frame.length = 64 + rawSize h.size.toNat →
        (∀ j : Nat, 1 ≤ j → j < frame.length → ∃ t, feedPipe (frame.take j) s = .ok t ∧ t.status.pipeDone = false
            ∧ t.pipe.result
              = (if j < 64 then BitVec.ofNat 32 (64 - j)
                else BitVec.ofNat 16 frame.length ++ BitVec.ofNat 16 (frame.length - j)))
          ∧ ∃ t, feedPipe frame s = .ok t ∧ t.pipe = ⟨0#16, 0#16, 0#16, BitVec.ofNat 16 frame.length ++ 0#16⟩
              ∧ t.status = { s.status with pipeHdrKnown := false, pipeDone := true }
              ∧ Memory.readBytes t.mem 0x1000 frame.length = some frame)
      ∧ ((hdrCheck (frame.take 64) = .rsBad ∨ hdrCheck (frame.take 64) = .sizeBad) →
          ∃ t, feedPipe (frame.take 64) s = .ok t ∧ t.pipe = ⟨0#16, 0#16, 0#16, 0xFFFFFFFF#32⟩
            ∧ t.status.pipeHdrKnown = false)

/-- R129, R134, R139, R111. A frame sent over the air arrives, whole, with FRAME_READY set, RXH = h, the payload at
PAY_RX, PAYLOAD_OK set and no corrected symbol, the receiver back in IDLE. First, from the first data window: the
un-squelched windows decide, each against the one before, the bits of the frame of a header h and a payload of h.SIZE
bytes, most significant first. Second, from the search: coherent pilot windows that bring COH_COUNT to the threshold
(the last of them locks, and the budget, on which R129 is silent, is not spent before), one pilot window more, q windows
without a phase reversal, the Barker sequence with q + 13 ≤ CFG_BARKER_MAX, CFG_SEP_SYMBOLS separator windows with any
phases, and the frame's bits; CARRIER_LOCK and SYNC_FOUND are set too. Third, earlier windows either trigger a lock or
leave the receiver in the search. The record h is any (log 17). -/
def Obligations.SentFrameIsReceived : Prop :=
  let pipeFresh (s : State) : Prop :=
    s.status.pipeHdrKnown = false ∧ s.pipe.count = 0#16 ∧ s.pipe.remaining = 0#16 ∧ s.pipe.frameLen = 0#16
  let searching (s : State) : Prop :=
    s.rxEn = true ∧ (s.rx.state = .idle ∨ s.rx.state = .coherenceAccumulating) ∧ s.rx.bitCount = 0#3 ∧ pipeFresh s
  let arrived (h : HeaderRegs) (p : List Byte) (t : State) : Prop :=
    t.rx.state = .idle ∧ t.event.getLsbD 2 = true ∧ t.rxh = h ∧ t.part = partRegsOf p.length ∧ t.status.payloadOk = true
      ∧ t.codec.blockFail = 0#32 ∧ t.codec.corrHdr = 0#8 ∧ t.codec.corrPay = 0#16
      ∧ Memory.readBytes t.mem 0x0400 p.length = some p
  (∀ (d : Dsp) (s : State) (reference : Window) (ws : List Window) (h : HeaderRegs) (p : List Byte),
    s.rxEn = true → s.prev = some reference →
    (s.rx.state = .rxData ∨ s.rx.state = .synchronized ∧ s.rx.sepRemaining = 0#16) → s.rx.bitCount = 0#3 →
    pipeFresh s → h.size.toNat = p.length → p.length ≤ 1023 → overlong p.length = false →
    flipsOf d reference ws = bits (frameOf (frameStream (packBytes h) p).1) →
    ∃ t, runWindows d ws s = .next t ∧ arrived h p t)
  ∧ (∀ (d : Dsp) (s : State) (pilot : List Window) (reference : Window) (ws : List Window) (q : Nat) (gap : List Bool)
      (h : HeaderRegs) (p : List Byte),
    searching s → pilot ≠ [] →
    s.rx.cohCount.toNat + pilot.length = max s.cfg.carrierThreshold.toNat 1 →
    (pilot.length = 1 ∨ s.rx.winCount.toNat + pilot.length ≤ s.cfg.maxOffset.toNat) →
    (∀ w ∈ pilot, s.cfg.cohThresh.toNat < (d.coh w).val) →
    q + 13 ≤ s.cfg.barkerMax.toNat → gap.length = s.cfg.sepSymbols.toNat →
    h.size.toNat = p.length → p.length ≤ 1023 → overlong p.length = false →
    flipsOf d reference ws
      = List.replicate q false
        ++ [true, true, true, true, true, false, false, true, true, false, true, false, true]
        ++ gap ++ bits (frameOf (frameStream (packBytes h) p).1) →
    ∃ t, runWindows d (pilot ++ reference :: ws) s = .next t ∧ arrived h p t
      ∧ t.event.getLsbD 7 = true ∧ t.event.getLsbD 8 = true)
  ∧ ∀ (d : Dsp) (s : State) (ws : List Window), searching s →
    (∃ n ≤ ws.length, ∃ t, runWindows d (ws.take n) s = .next t ∧ t.rx.state = .carrierLocked
        ∧ t.event.getLsbD 7 = true)
      ∨ ∃ t, runWindows d ws s = .next t ∧ searching t ∧ t.cfg = s.cfg

/-- R22, R119, R139, R159. What a window step that gives a next state leaves alone: the command unit's registers, the
host's registers, the transmit side, the fault record, and every byte outside PAY_RX and FRAME_RX. Events are only ever
set. With the receiver disabled nothing but the stream position changes. -/
def Obligations.WindowStepFrame : Prop :=
  ∀ (d : Dsp) (w : Window) (sq : Bool) (s t : State), rxStep d w sq s = .next t →
    (t.rxEn = s.rxEn ∧ t.cmd = s.cmd ∧ t.pending = s.pending ∧ t.result = s.result ∧ t.irqEn = s.irqEn
        ∧ t.faultInfo = s.faultInfo ∧ t.status.fault = s.status.fault ∧ t.args = s.args
        ∧ t.txFrameLen = s.txFrameLen ∧ t.txh = s.txh ∧ t.lfsrTx = s.lfsrTx ∧ t.codec.corrRs = s.codec.corrRs
        ∧ t.cfg = s.cfg ∧ t.inputs = s.inputs ∧ t.busOut = s.busOut ∧ t.rxPos = s.rxPos + 1)
      ∧ (t.event &&& s.event = s.event ∧ t.event &&& 0x403#11 = s.event &&& 0x403#11)
      ∧ (s.pipe.count.toNat < 2048 → ∀ a : Nat, outsideRegion a (0x0400, 0x0400) → outsideRegion a (0x1000, 0x0800) →
          Memory.read t.mem a = Memory.read s.mem a)
      ∧ (s.rxEn = false → t = { s with rxPos := s.rxPos + 1 })

/-- R158, R159. The transmit side does not disturb the receiver: a command that gives a next state while RX_EN = 1,
whatever its outcome, leaves the receive datapath, the phase reference, the pipe, the frame result set, CFG_*, LFSR_RX
and every byte of PAY_RX and FRAME_RX as they were. -/
def Obligations.CommandsDoNotDisturbReceiver : Prop :=
  ∀ (i : Instr) (s t : State), s.rxEn = true → exec i s = .next t →
    (t.rxEn = true ∧ t.rx = s.rx ∧ t.prev = s.prev ∧ t.pipe = s.pipe ∧ t.rxh = s.rxh ∧ t.part = s.part
        ∧ t.codec = s.codec ∧ t.lfsrRx = s.lfsrRx ∧ t.cfg = s.cfg
        ∧ t.status = { s.status with fault := t.status.fault })
      ∧ ∀ a : Nat, (0x0400 ≤ a ∧ a < 0x0800 ∨ 0x1000 ≤ a ∧ a < 0x1800) → Memory.read t.mem a = Memory.read s.mem a

/-! ### The host -/

/-- R152. What every register index reads as after power-on reset, and the hidden state: nothing pending, PREV absent,
stream position 0, no byte written. The five CFG parameters the spec leaves OPEN stand here by name; their values are
the model's (log 2). -/
def Obligations.ResetLeavesTheseValues : Prop :=
  (∀ i : BitVec 8,
      State.reset.indexWord i
        = (if i = 0x00#8 then 0x49524953#32
          else if i = 0x01#8 then 0x00070020#32
          else if i = 0x3C#8 then 0x0000000F#32
          else if i = 0x3D#8 then 0x000001F0#32
          else if i = 0x50#8 then 0x0000C000#32
          else if i = 0x51#8 then Config.carrierThresholdRst.setWidth 32
          else if i = 0x52#8 then Config.maxOffsetRst
          else if i = 0x53#8 then Config.barkerMaxRst
          else if i = 0x54#8 then Config.sepSymbolsRst.setWidth 32
          else if i = 0x55#8 then Config.gainSkipRst
          else 0#32))
    ∧ State.reset.pending = none ∧ State.reset.prev = none ∧ State.reset.rxPos = 0
    ∧ ∀ a : Nat, Memory.read State.reset.mem a = none

/-- R153, R125, R20. A CTRL write with SOFT_RESET = 1 is accepted in every state: every register takes its reset value,
the pending command is discarded, PREV is absent, the stream position is 0 and the buffer with its written-mask is kept
(so are the model's own fields: log 10). With SOFT_RESET = 0 and nothing pending, a write that changes RX_EN resets the
agent, and one that does not changes nothing. -/
def Obligations.CtrlWrites : Prop :=
  (∀ (s : State) (v : Word), v.getLsbD 1 = true →
      hostStep (.regWr 0x02#8 v) s
        = .next { State.reset with
            mem := s.mem
            inputs := s.inputs
            busOut := s.busOut
            draws := s.draws })
    ∧ ∀ (s : State) (v : Word), v.getLsbD 1 = false → s.pending = none →
        (v.getLsbD 0 ≠ s.rxEn →
            hostStep (.regWr 0x02#8 v) s
              = .next { s with
                  rxEn := v.getLsbD 0
                  rx := ⟨.idle, 0#16, 0#32, 0#5, 0#32, 0#16, 0#32, 0#3, 0#8⟩
                  prev := none
                  pipe := ⟨0#16, 0#16, 0#16, s.pipe.result⟩
                  status := { s.status with pipeHdrKnown := false } })
          ∧ (v.getLsbD 0 = s.rxEn → hostStep (.regWr 0x02#8 v) s = .next s)

/-- R60, R155. A CMD write with nothing pending stores the word, latches it and sets BUSY: one command is issued,
decoded only when it executes. While a command is pending, writes to EVENT (write 1 to clear), to IRQ_EN and a soft
reset are allowed; a CMD write is the bus fault E_CMD_WHILE_BUSY (0x16), PENDING and CMD staying, and every other host
write the bus fault E_WRITE_WHILE_BUSY (0x17), and both are ignored. That R155's code stands where R157 applies too (a
write to CFG_* or into an RX-owned region with a command pending and RX_EN = 1) is the model's choice (log 13). With
nothing pending, a write to a read-only or reserved register is ignored without a fault. -/
def Obligations.CmdIssueAndWritesWhileBusy : Prop :=
  (∀ (s : State) (v : Word), s.pending = none →
      hostStep (.regWr 0x03#8 v) s = .next { s with cmd := v, pending := some v }
        ∧ State.busy { s with cmd := v, pending := some v } = true)
    ∧ (∀ (s : State) (v : Word), s.pending ≠ none →
        hostStep (.regWr 0x06#8 v) s = .next { s with event := s.event &&& ~~~(v.extractLsb' 0 11) }
          ∧ hostStep (.regWr 0x07#8 v) s = .next { s with irqEn := v.extractLsb' 0 11 }
          ∧ (v.getLsbD 1 = true → ∃ t, hostStep (.regWr 0x02#8 v) s = .next t ∧ t.pending = none ∧ t.status.fault = false)
          ∧ hostStep (.regWr 0x03#8 v) s = .next (busFaultDone 0x16#8 s)
          ∧ (∀ i : BitVec 8, i ∉ [0x02#8, 0x03#8, 0x06#8, 0x07#8] →
              hostStep (.regWr i v) s = .next (busFaultDone 0x17#8 s))
          ∧ (v.getLsbD 1 = false → hostStep (.regWr 0x02#8 v) s = .next (busFaultDone 0x17#8 s))
          ∧ ∀ (a : BitVec 13) (b : Byte), hostStep (.bufWr a b) s = .next (busFaultDone 0x17#8 s))
    ∧ ∀ (s : State) (v : Word) (i : BitVec 8), s.pending = none →
        i ∉ [0x02#8, 0x03#8, 0x06#8, 0x07#8, 0x09#8, 0x0A#8, 0x0B#8, 0x0C#8] →
        ¬(0x10#8 ≤ i ∧ i ≤ 0x1A#8) → ¬(0x50#8 ≤ i ∧ i ≤ 0x55#8) → hostStep (.regWr i v) s = .next s

/-- R42, R43, R156, R41, and R16, R19 to R35 for what each index reads as: every field at its bits, the bits above it 0,
and 0 at a reserved index. A read changes nothing of the block; what it returned stands in the model's `busOut` (log 4).
With nothing pending a REG_RD returns the register's word and a BUF_RD a written byte. While a command is pending the
control registers still read truly, and every other read gives some value, a new draw each time (log 5); that a BUF_RD
of a byte nothing has written does so too then, and is no UNINIT_READ, is the model's choice (log 12). -/
def Obligations.ReadsReturnWithoutSideEffect : Prop :=
  let bit (b : Bool) : BitVec 1 := BitVec.ofBool b
  let header (base : BitVec 8) (h : HeaderRegs) : List (BitVec 8 × Word) :=
    [(base, h.dstA), (base + 0x1#8, h.dstB.setWidth 32), (base + 0x2#8, h.lsrcA), (base + 0x3#8, h.lsrcB.setWidth 32),
      (base + 0x4#8, h.srcA), (base + 0x5#8, h.srcB.setWidth 32), (base + 0x6#8, h.flags.setWidth 32),
      (base + 0x7#8, h.size.setWidth 32), (base + 0x8#8, h.mySeq.setWidth 32), (base + 0x9#8, h.data01),
      (base + 0xA#8, h.data23)]
  let map (s : State) : List (BitVec 8 × Word) :=
    [(0x00#8, 0x49524953#32), (0x01#8, 0x00070020#32), (0x02#8, (bit s.rxEn).setWidth 32), (0x03#8, s.cmd),
      (0x04#8, (bit s.status.pipeDone ++ bit s.status.barkerFound ++ bit s.status.pipeHdrKnown ++ bit s.status.payloadOk
        ++ bit s.status.fault ++ bit s.pending.isSome).setWidth 32),
      (0x05#8, (s.result.opc ++ s.result.code).setWidth 32), (0x06#8, s.event.setWidth 32), (0x07#8, s.irqEn.setWidth 32),
      (0x08#8, (s.faultInfo.origin ++ s.faultInfo.code).setWidth 32), (0x09#8, s.args.src.setWidth 32),
      (0x0A#8, s.args.dst.setWidth 32), (0x0B#8, s.args.len.setWidth 32), (0x0C#8, s.args.nsym.setWidth 32),
      (0x0D#8, s.txFrameLen.setWidth 32)]
    ++ header 0x10#8 s.txh ++ header 0x20#8 s.rxh
    ++ [(0x30#8, s.part.blocks.setWidth 32), (0x31#8, s.part.smallLen.setWidth 32), (0x32#8, s.part.largeLen.setWidth 32),
      (0x33#8, s.part.smallCnt.setWidth 32), (0x34#8, s.part.largeCnt.setWidth 32), (0x35#8, s.part.ecc.setWidth 32),
      (0x36#8, s.part.raw), (0x37#8, (bit s.part.oversize ++ bit s.part.overlong).setWidth 32),
      (0x38#8, s.codec.blockFail), (0x39#8, s.codec.corrHdr.setWidth 32), (0x3A#8, s.codec.corrPay.setWidth 32),
      (0x3B#8, s.codec.corrRs.setWidth 32), (0x3C#8, s.lfsrTx.setWidth 32), (0x3D#8, s.lfsrRx.setWidth 32)]
    ++ [(0x40#8,
          match s.rx.state with
          | .idle => 0#32
          | .coherenceAccumulating => 1#32
          | .carrierLocked => 2#32
          | .barkerMatching => 3#32
          | .synchronized => 4#32
          | .rxData => 5#32),
      (0x41#8, s.rx.cohCount.setWidth 32), (0x42#8, s.rx.winCount), (0x43#8, s.rx.barkerState.setWidth 32),
      (0x44#8, s.rx.barkerCount), (0x45#8, s.rx.sepRemaining.setWidth 32), (0x46#8, s.rx.gain),
      (0x47#8, s.rx.bitCount.setWidth 32), (0x48#8, s.rx.shift.setWidth 32), (0x49#8, s.pipe.count.setWidth 32),
      (0x4A#8, s.pipe.remaining.setWidth 32), (0x4B#8, s.pipe.frameLen.setWidth 32), (0x4C#8, s.pipe.result)]
    ++ [(0x50#8, s.cfg.cohThresh.setWidth 32), (0x51#8, s.cfg.carrierThreshold.setWidth 32), (0x52#8, s.cfg.maxOffset),
      (0x53#8, s.cfg.barkerMax), (0x54#8, s.cfg.sepSymbols.setWidth 32), (0x55#8, s.cfg.gainSkip)]
  (∀ s : State, (∀ e ∈ map s, s.indexWord e.1 = e.2)
      ∧ ∀ i : BitVec 8, (∀ e ∈ map s, e.1 ≠ i) → s.indexWord i = 0#32)
    ∧ (∀ (s : State) (i : BitVec 8),
      (s.pending = none ∨ i ∈ [0x00#8, 0x01#8, 0x02#8, 0x03#8, 0x04#8, 0x06#8, 0x07#8] →
          hostStep (.regRd i) s = .next { s with busOut := some (.reg (s.indexWord i)) })
        ∧ (s.pending ≠ none → i ∉ [0x00#8, 0x01#8, 0x02#8, 0x03#8, 0x04#8, 0x06#8, 0x07#8] →
            ∃ v, hostStep (.regRd i) s = .next { s with busOut := some (.reg v), draws := s.draws + 1 }))
    ∧ ∀ (s : State) (a : BitVec 13),
        (s.pending ≠ none → ∃ b, hostStep (.bufRd a) s = .next { s with busOut := some (.buf b), draws := s.draws + 1 })
          ∧ ∀ b : Byte, s.pending = none → Memory.read s.mem a.toNat = some b →
              hostStep (.bufRd a) s = .next { s with busOut := some (.buf b) }

/-- R18, R24, R26, R28, R35, R42. A write to a read/write register with nothing pending, whether the receiver is enabled
or not (for CFG_*, with RX_EN = 0), then a read of it: the register holds the value under its field's mask, every other
index reads as before, and the buffer, the receive state and the pending latch are untouched. -/
def Obligations.WrittenRegisterReadsBack : Prop :=
  let masks : List (BitVec 8 × Word) :=
    [(0x07#8, 0x7FF#32), (0x09#8, 0x1FFF#32), (0x0A#8, 0x1FFF#32), (0x0B#8, 0xFFFF#32), (0x0C#8, 0xFF#32),
      (0x10#8, 0xFFFFFFFF#32), (0x11#8, 0xFFFF#32), (0x12#8, 0xFFFFFFFF#32), (0x13#8, 0xFFFF#32),
      (0x14#8, 0xFFFFFFFF#32), (0x15#8, 0xFFFF#32), (0x16#8, 0xFFF#32), (0x17#8, 0xFFFF#32), (0x18#8, 0xFFFF#32),
      (0x19#8, 0xFFFFFFFF#32), (0x1A#8, 0xFFFFFFFF#32), (0x50#8, 0xFFFF#32), (0x51#8, 0xFFFF#32),
      (0x52#8, 0xFFFFFFFF#32), (0x53#8, 0xFFFFFFFF#32), (0x54#8, 0xFFFF#32), (0x55#8, 0xFFFFFFFF#32)]
  ∀ (s : State) (i : BitVec 8) (mask v : Word), (i, mask) ∈ masks → s.pending = none →
    (s.rxEn = true → i < 0x50#8) →
    ∃ t, hostStep (.regWr i v) s = .next t ∧ t.indexWord i = v &&& mask
      ∧ (∀ j : BitVec 8, j ≠ i → t.indexWord j = s.indexWord j)
      ∧ t.mem = s.mem ∧ t.prev = s.prev ∧ t.pending = none ∧ t.rxPos = s.rxPos ∧ t.inputs = s.inputs
      ∧ t.busOut = s.busOut ∧ t.draws = s.draws

/-- R157, R42. With nothing pending, a BUF_WR stores its byte, marked written, and leaves every other byte alone, except
into PAY_RX or FRAME_RX while RX_EN = 1: that, like a CFG_* write then, is the bus fault E_HAZARD (0x15) and is ignored.
-/
def Obligations.HostBufferWrites : Prop :=
  (∀ (s : State) (a : BitVec 13) (b : Byte), s.pending = none →
      (s.rxEn = false ∨ ¬(0x0400 ≤ a.toNat ∧ a.toNat < 0x0800) ∧ ¬(0x1000 ≤ a.toNat ∧ a.toNat < 0x1800)) →
      ∃ m, hostStep (.bufWr a b) s = .next { s with mem := m } ∧ Memory.read m a.toNat = some b
        ∧ ∀ x : Nat, x ≠ a.toNat → Memory.read m x = Memory.read s.mem x)
    ∧ (∀ (s : State) (a : BitVec 13) (b : Byte), s.pending = none → s.rxEn = true →
        (0x0400 ≤ a.toNat ∧ a.toNat < 0x0800 ∨ 0x1000 ≤ a.toNat ∧ a.toNat < 0x1800) →
        hostStep (.bufWr a b) s = .next (busFaultDone 0x15#8 s))
    ∧ ∀ (s : State) (i : BitVec 8) (v : Word), s.pending = none → s.rxEn = true → 0x50#8 ≤ i → i ≤ 0x55#8 →
        hostStep (.regWr i v) s = .next (busFaultDone 0x15#8 s)

/-- R24, R146. A write to EVENT clears exactly the bits written as 1. The interrupt output is the OR over EVENT[i] AND
IRQ_EN[i]; it is 0 at reset, and after acknowledging every enabled bit. -/
def Obligations.EventsAndInterrupt : Prop :=
  (∀ (s : State) (v : Word), ∃ t, hostStep (.regWr 0x06#8 v) s = .next t
      ∧ ∀ i < 11, t.event.getLsbD i = (s.event.getLsbD i && !v.getLsbD i))
    ∧ (∀ s : State, s.irq = true ↔ ∃ i < 11, s.event.getLsbD i = true ∧ s.irqEn.getLsbD i = true)
    ∧ State.reset.irq = false
    ∧ ∀ (s : State) (v : Word), (∀ i < 11, s.irqEn.getLsbD i = true → v.getLsbD i = true) →
        ∃ t, hostStep (.regWr 0x06#8 v) s = .next t ∧ t.irq = false

/-! ### Invariants -/

/-- R33, R37, R39, R132, R136, R143, R144. The state after power-on reset meets the invariant. -/
def Obligations.InvariantAtReset : Prop := Inv State.reset

/-- R31, R33, R37, R39, R132, R136, R143, R144. Every step of every agent, from any state that meets the invariant,
keeps it: the buffer's canonical form, the Moore machine's range, PREV present exactly where the receiver needs it, the
pipe's accounts and bytes, RESULT's codes, FAULT_INFO set exactly with STATUS.FAULT, and BLOCK_FAIL's high bits 0. -/
def Obligations.StepKeepsInvariant : Prop := ∀ s t : State, Inv s → step s = .next t → Inv t

/-- R41, R56, R132, R136. From a state that meets the invariant a step stops for one reason only, a byte nothing has
written, and only a host read or a command can stop: a window never does. No step is ever refused. -/
def Obligations.OnlyUnwrittenBytesStopAStep : Prop :=
  (∀ (s : State) (f : Fault), Inv s → step s = .fault f → f = .uninitRead)
    ∧ (∀ (d : Dsp) (w : Window) (sq : Bool) (s : State), Inv s → ∃ t, rxStep d w sq s = .next t ∧ Inv t)
    ∧ ∀ (s : State) (r : Refusal), step s ≠ .refused r

end
end

