-- ==== Sys2Proof/Laws/Memory.lean ====
section
/-! SUPPORT. The laws of the buffer: read after write, what a write leaves alone, and that every memory operation keeps the
canonical form. -/

namespace Sys2Proof.Machine

theorem read_write_same (m : Memory) (a : Nat) (v : Byte) : Memory.read (Memory.write m a v) a = some v := by
  induction m with
  | nil => simp [Memory.write, Memory.read]
  | cons c m ih =>
    obtain ⟨b, u⟩ := c
    simp only [Memory.write]
    split
    · simp [Memory.read]
    · split
      · simp [Memory.read]
      · rename_i h; simp [Memory.read, h, ih]

theorem read_write_other (m : Memory) (a b : Nat) (v : Byte) (h : b ≠ a) :
    Memory.read (Memory.write m a v) b = Memory.read m b := by
  induction m with
  | nil => simp [Memory.write, Memory.read, h]
  | cons c m ih =>
    obtain ⟨x, u⟩ := c
    simp only [Memory.write]
    split
    · simp [Memory.read, h]
    · split
      · rename_i h'; subst h'; simp [Memory.read, h]
      · simp [Memory.read, ih]

theorem read_write (m : Memory) (a b : Nat) (v : Byte) :
    Memory.read (Memory.write m a v) b = if b = a then some v else Memory.read m b := by
  by_cases h : b = a
  · subst h; simp [read_write_same]
  · simp [h, read_write_other m a b v h]

/-- A written byte stays written. -/
theorem read_write_isSome (m : Memory) (a b : Nat) (v : Byte) (h : (Memory.read m b).isSome) :
    (Memory.read (Memory.write m a v) b).isSome := by
  rw [read_write]; split <;> simp_all

theorem read_writeBytes_outside (m : Memory) (a b : Nat) (bs : List Byte) (h : b < a ∨ a + bs.length ≤ b) :
    Memory.read (Memory.writeBytes m a bs) b = Memory.read m b := by
  induction bs generalizing m a with
  | nil => rfl
  | cons x bs ih =>
    simp only [List.length_cons] at h
    rw [Memory.writeBytes, ih _ _ (by omega), read_write_other _ _ _ _ (by omega)]

theorem read_writeBytes_inside (m : Memory) (a i : Nat) (bs : List Byte) (h : i < bs.length) :
    Memory.read (Memory.writeBytes m a bs) (a + i) = some bs[i] := by
  induction bs generalizing m a i with
  | nil => simp at h
  | cons x bs ih =>
    rw [Memory.writeBytes]
    cases i with
    | zero =>
      rw [read_writeBytes_outside _ _ _ _ (by omega)]
      simpa using read_write_same m a x
    | succ i =>
      have := ih (Memory.write m a x) (a + 1) i (by simpa using h)
      rw [show a + (i + 1) = a + 1 + i by omega, this]
      simp

theorem read_writeBytes_isSome (m : Memory) (a b : Nat) (bs : List Byte) (h : (Memory.read m b).isSome) :
    (Memory.read (Memory.writeBytes m a bs) b).isSome := by
  induction bs generalizing m a with
  | nil => exact h
  | cons x bs ih => exact ih _ _ (read_write_isSome m a b x h)

theorem readBytes_length (m : Memory) (a n : Nat) (bs : List Byte) (h : Memory.readBytes m a n = some bs) :
    bs.length = n := by
  induction n generalizing a bs with
  | zero => simp [Memory.readBytes] at h; simp [← h]
  | succ n ih =>
    simp only [Memory.readBytes] at h
    split at h
    · rename_i hb; cases h; simp [ih _ _ hb]
    · cases h

/-- A region is readable exactly when each of its bytes is written. -/
theorem readBytes_isSome_iff (m : Memory) (a n : Nat) :
    (Memory.readBytes m a n).isSome ↔ ∀ i < n, (Memory.read m (a + i)).isSome := by
  induction n generalizing a with
  | zero => simp [Memory.readBytes]
  | succ n ih =>
    have h0 : (∀ i < n + 1, (Memory.read m (a + i)).isSome)
        ↔ (Memory.read m a).isSome ∧ ∀ i < n, (Memory.read m (a + 1 + i)).isSome := by
      constructor
      · intro h
        refine ⟨by simpa using h 0 (by omega), fun i hi => ?_⟩
        have := h (i + 1) (by omega)
        rwa [show a + (i + 1) = a + 1 + i by omega] at this
      · rintro ⟨h, h'⟩ i hi
        cases i with
        | zero => simpa using h
        | succ i => rw [show a + (i + 1) = a + 1 + i by omega]; exact h' i (by omega)
    rw [h0, ← ih, Memory.readBytes]
    cases Memory.read m a <;> cases Memory.readBytes m (a + 1) n <;> simp

theorem readBytes_writeBytes_same (m : Memory) (a : Nat) (bs : List Byte) :
    Memory.readBytes (Memory.writeBytes m a bs) a bs.length = some bs := by
  suffices h : ∀ (k : Nat) (rest : List Byte), (∀ i (hi : i < rest.length), Memory.read (Memory.writeBytes m a bs) (k + i)
      = some rest[i]) → Memory.readBytes (Memory.writeBytes m a bs) k rest.length = some rest from
    h a bs (fun i hi => read_writeBytes_inside m a i bs hi)
  intro k rest
  induction rest generalizing k with
  | nil => intro _; rfl
  | cons x rest ih =>
    intro h
    have h0 := h 0 (by simp)
    have ht := ih (k + 1) (fun i hi => by
      have := h (i + 1) (by simpa using hi)
      rw [show k + 1 + i = k + (i + 1) by omega, this]; simp)
    simp only [List.length_cons, Memory.readBytes, ht]
    simp at h0
    simp [h0]

/-- A read of a region that a write does not touch. -/
theorem readBytes_writeBytes_outside (m : Memory) (a b n : Nat) (bs : List Byte)
    (h : b + n ≤ a ∨ a + bs.length ≤ b) : Memory.readBytes (Memory.writeBytes m a bs) b n = Memory.readBytes m b n := by
  induction n generalizing b with
  | zero => rfl
  | succ n ih =>
    simp only [Memory.readBytes]
    rw [ih (b + 1) (by omega), read_writeBytes_outside _ _ _ _ (by omega)]

/-- A write of two sequences one after the other. -/
theorem writeBytes_append (m : Memory) (a : Nat) (xs ys : List Byte) :
    Memory.writeBytes m a (xs ++ ys) = Memory.writeBytes (Memory.writeBytes m a xs) (a + xs.length) ys := by
  induction xs generalizing m a with
  | nil => rfl
  | cons x xs ih =>
    simp only [List.cons_append, Memory.writeBytes, ih, List.length_cons]
    rw [show a + 1 + xs.length = a + (xs.length + 1) by omega]

/-- Two buffers that agree byte for byte agree on every region. -/
theorem readBytes_congr (m m' : Memory) (a n : Nat) (h : ∀ x, Memory.read m x = Memory.read m' x) :
    Memory.readBytes m a n = Memory.readBytes m' a n := by
  induction n generalizing a with
  | zero => rfl
  | succ n ih => simp only [Memory.readBytes, ih, h]

/-! ### The canonical form -/

theorem sortedFrom_mono (lo lo' : Nat) (m : Memory) (h : Memory.sortedFrom lo m = true) (hl : lo' ≤ lo) :
    Memory.sortedFrom lo' m = true := by
  cases m with
  | nil => rfl
  | cons c m => simp [Memory.sortedFrom] at h ⊢; exact ⟨⟨by omega, h.1.2⟩, h.2⟩

theorem sortedFrom_write (lo : Nat) (m : Memory) (a : Nat) (v : Byte) (h : Memory.sortedFrom lo m = true) (hl : lo ≤ a)
    (ha : a < Config.bufSize) : Memory.sortedFrom lo (Memory.write m a v) = true := by
  induction m generalizing lo with
  | nil => simp [Memory.write, Memory.sortedFrom, hl, ha]
  | cons c m ih =>
    obtain ⟨b, u⟩ := c
    simp only [Memory.write]
    simp only [Memory.sortedFrom, Bool.and_eq_true, decide_eq_true_eq] at h
    split
    · rename_i hab
      simp only [Memory.sortedFrom, Bool.and_eq_true, decide_eq_true_eq]
      exact ⟨⟨hl, ha⟩, ⟨by omega, h.1.2⟩, h.2⟩
    · split
      · rename_i hab; subst hab
        simp only [Memory.sortedFrom, Bool.and_eq_true, decide_eq_true_eq]
        exact ⟨⟨hl, ha⟩, h.2⟩
      · simp only [Memory.sortedFrom, Bool.and_eq_true, decide_eq_true_eq]
        exact ⟨h.1, ih (b + 1) h.2 (by omega)⟩

/-- A write inside the buffer keeps the canonical form. -/
theorem wf_write (m : Memory) (a : Nat) (v : Byte) (h : Memory.wf m = true) (ha : a < Config.bufSize) :
    Memory.wf (Memory.write m a v) = true := sortedFrom_write 0 m a v h (Nat.zero_le a) ha

/-- A write of a region inside the buffer keeps the canonical form. -/
theorem wf_writeBytes (m : Memory) (a : Nat) (bs : List Byte) (h : Memory.wf m = true)
    (ha : a + bs.length ≤ Config.bufSize) : Memory.wf (Memory.writeBytes m a bs) = true := by
  induction bs generalizing m a with
  | nil => exact h
  | cons x bs ih =>
    simp only [List.length_cons] at ha
    exact ih _ _ (wf_write m a x h (by omega)) (by omega)

/-- The buffer of the reset state has the canonical form. -/
theorem wf_nil : Memory.wf [] = true := rfl

end Sys2Proof.Machine
end

