-- ==== Sys2Proof/Laws/State.lean ====
section
/-! SUPPORT. One lemma per field for each named update of the state, so that no later proof unfolds a record update. -/

namespace Sys2Proof.Machine

/-! ### emit -/

@[simp] theorem emit_rxEn (s : State) (e : BitVec 11) : (s.emit e).rxEn = s.rxEn := rfl
@[simp] theorem emit_cmd (s : State) (e : BitVec 11) : (s.emit e).cmd = s.cmd := rfl
@[simp] theorem emit_status (s : State) (e : BitVec 11) : (s.emit e).status = s.status := rfl
@[simp] theorem emit_result (s : State) (e : BitVec 11) : (s.emit e).result = s.result := rfl
@[simp] theorem emit_irqEn (s : State) (e : BitVec 11) : (s.emit e).irqEn = s.irqEn := rfl
@[simp] theorem emit_faultInfo (s : State) (e : BitVec 11) : (s.emit e).faultInfo = s.faultInfo := rfl
@[simp] theorem emit_args (s : State) (e : BitVec 11) : (s.emit e).args = s.args := rfl
@[simp] theorem emit_txFrameLen (s : State) (e : BitVec 11) : (s.emit e).txFrameLen = s.txFrameLen := rfl
@[simp] theorem emit_txh (s : State) (e : BitVec 11) : (s.emit e).txh = s.txh := rfl
@[simp] theorem emit_rxh (s : State) (e : BitVec 11) : (s.emit e).rxh = s.rxh := rfl
@[simp] theorem emit_part (s : State) (e : BitVec 11) : (s.emit e).part = s.part := rfl
@[simp] theorem emit_codec (s : State) (e : BitVec 11) : (s.emit e).codec = s.codec := rfl
@[simp] theorem emit_lfsrTx (s : State) (e : BitVec 11) : (s.emit e).lfsrTx = s.lfsrTx := rfl
@[simp] theorem emit_lfsrRx (s : State) (e : BitVec 11) : (s.emit e).lfsrRx = s.lfsrRx := rfl
@[simp] theorem emit_rx (s : State) (e : BitVec 11) : (s.emit e).rx = s.rx := rfl
@[simp] theorem emit_pipe (s : State) (e : BitVec 11) : (s.emit e).pipe = s.pipe := rfl
@[simp] theorem emit_cfg (s : State) (e : BitVec 11) : (s.emit e).cfg = s.cfg := rfl
@[simp] theorem emit_pending (s : State) (e : BitVec 11) : (s.emit e).pending = s.pending := rfl
@[simp] theorem emit_prev (s : State) (e : BitVec 11) : (s.emit e).prev = s.prev := rfl
@[simp] theorem emit_mem (s : State) (e : BitVec 11) : (s.emit e).mem = s.mem := rfl
@[simp] theorem emit_rxPos (s : State) (e : BitVec 11) : (s.emit e).rxPos = s.rxPos := rfl
@[simp] theorem emit_inputs (s : State) (e : BitVec 11) : (s.emit e).inputs = s.inputs := rfl
@[simp] theorem emit_busOut (s : State) (e : BitVec 11) : (s.emit e).busOut = s.busOut := rfl
@[simp] theorem emit_draws (s : State) (e : BitVec 11) : (s.emit e).draws = s.draws := rfl
@[simp] theorem emit_event (s : State) (e : BitVec 11) : (s.emit e).event = s.event ||| e := rfl

/-! ### ackEvents -/

@[simp] theorem ackEvents_rxEn (s : State) (v : Word) : (s.ackEvents v).rxEn = s.rxEn := rfl
@[simp] theorem ackEvents_cmd (s : State) (v : Word) : (s.ackEvents v).cmd = s.cmd := rfl
@[simp] theorem ackEvents_status (s : State) (v : Word) : (s.ackEvents v).status = s.status := rfl
@[simp] theorem ackEvents_result (s : State) (v : Word) : (s.ackEvents v).result = s.result := rfl
@[simp] theorem ackEvents_irqEn (s : State) (v : Word) : (s.ackEvents v).irqEn = s.irqEn := rfl
@[simp] theorem ackEvents_faultInfo (s : State) (v : Word) : (s.ackEvents v).faultInfo = s.faultInfo := rfl
@[simp] theorem ackEvents_args (s : State) (v : Word) : (s.ackEvents v).args = s.args := rfl
@[simp] theorem ackEvents_txFrameLen (s : State) (v : Word) : (s.ackEvents v).txFrameLen = s.txFrameLen := rfl
@[simp] theorem ackEvents_txh (s : State) (v : Word) : (s.ackEvents v).txh = s.txh := rfl
@[simp] theorem ackEvents_rxh (s : State) (v : Word) : (s.ackEvents v).rxh = s.rxh := rfl
@[simp] theorem ackEvents_part (s : State) (v : Word) : (s.ackEvents v).part = s.part := rfl
@[simp] theorem ackEvents_codec (s : State) (v : Word) : (s.ackEvents v).codec = s.codec := rfl
@[simp] theorem ackEvents_lfsrTx (s : State) (v : Word) : (s.ackEvents v).lfsrTx = s.lfsrTx := rfl
@[simp] theorem ackEvents_lfsrRx (s : State) (v : Word) : (s.ackEvents v).lfsrRx = s.lfsrRx := rfl
@[simp] theorem ackEvents_rx (s : State) (v : Word) : (s.ackEvents v).rx = s.rx := rfl
@[simp] theorem ackEvents_pipe (s : State) (v : Word) : (s.ackEvents v).pipe = s.pipe := rfl
@[simp] theorem ackEvents_cfg (s : State) (v : Word) : (s.ackEvents v).cfg = s.cfg := rfl
@[simp] theorem ackEvents_pending (s : State) (v : Word) : (s.ackEvents v).pending = s.pending := rfl
@[simp] theorem ackEvents_prev (s : State) (v : Word) : (s.ackEvents v).prev = s.prev := rfl
@[simp] theorem ackEvents_mem (s : State) (v : Word) : (s.ackEvents v).mem = s.mem := rfl
@[simp] theorem ackEvents_rxPos (s : State) (v : Word) : (s.ackEvents v).rxPos = s.rxPos := rfl
@[simp] theorem ackEvents_inputs (s : State) (v : Word) : (s.ackEvents v).inputs = s.inputs := rfl
@[simp] theorem ackEvents_busOut (s : State) (v : Word) : (s.ackEvents v).busOut = s.busOut := rfl
@[simp] theorem ackEvents_draws (s : State) (v : Word) : (s.ackEvents v).draws = s.draws := rfl
@[simp] theorem ackEvents_event (s : State) (v : Word) : (s.ackEvents v).event = s.event &&& ~~~(v.setWidth 11) := rfl

/-! ### pipeCounterReset -/

@[simp] theorem pipeCounterReset_rxEn (s : State) : (s.pipeCounterReset).rxEn = s.rxEn := rfl
@[simp] theorem pipeCounterReset_cmd (s : State) : (s.pipeCounterReset).cmd = s.cmd := rfl
@[simp] theorem pipeCounterReset_result (s : State) : (s.pipeCounterReset).result = s.result := rfl
@[simp] theorem pipeCounterReset_event (s : State) : (s.pipeCounterReset).event = s.event := rfl
@[simp] theorem pipeCounterReset_irqEn (s : State) : (s.pipeCounterReset).irqEn = s.irqEn := rfl
@[simp] theorem pipeCounterReset_faultInfo (s : State) : (s.pipeCounterReset).faultInfo = s.faultInfo := rfl
@[simp] theorem pipeCounterReset_args (s : State) : (s.pipeCounterReset).args = s.args := rfl
@[simp] theorem pipeCounterReset_txFrameLen (s : State) : (s.pipeCounterReset).txFrameLen = s.txFrameLen := rfl
@[simp] theorem pipeCounterReset_txh (s : State) : (s.pipeCounterReset).txh = s.txh := rfl
@[simp] theorem pipeCounterReset_rxh (s : State) : (s.pipeCounterReset).rxh = s.rxh := rfl
@[simp] theorem pipeCounterReset_part (s : State) : (s.pipeCounterReset).part = s.part := rfl
@[simp] theorem pipeCounterReset_codec (s : State) : (s.pipeCounterReset).codec = s.codec := rfl
@[simp] theorem pipeCounterReset_lfsrTx (s : State) : (s.pipeCounterReset).lfsrTx = s.lfsrTx := rfl
@[simp] theorem pipeCounterReset_lfsrRx (s : State) : (s.pipeCounterReset).lfsrRx = s.lfsrRx := rfl
@[simp] theorem pipeCounterReset_rx (s : State) : (s.pipeCounterReset).rx = s.rx := rfl
@[simp] theorem pipeCounterReset_cfg (s : State) : (s.pipeCounterReset).cfg = s.cfg := rfl
@[simp] theorem pipeCounterReset_pending (s : State) : (s.pipeCounterReset).pending = s.pending := rfl
@[simp] theorem pipeCounterReset_prev (s : State) : (s.pipeCounterReset).prev = s.prev := rfl
@[simp] theorem pipeCounterReset_mem (s : State) : (s.pipeCounterReset).mem = s.mem := rfl
@[simp] theorem pipeCounterReset_rxPos (s : State) : (s.pipeCounterReset).rxPos = s.rxPos := rfl
@[simp] theorem pipeCounterReset_inputs (s : State) : (s.pipeCounterReset).inputs = s.inputs := rfl
@[simp] theorem pipeCounterReset_busOut (s : State) : (s.pipeCounterReset).busOut = s.busOut := rfl
@[simp] theorem pipeCounterReset_draws (s : State) : (s.pipeCounterReset).draws = s.draws := rfl
@[simp] theorem pipeCounterReset_pipe_count (s : State) : (s.pipeCounterReset).pipe.count = 0#16 := rfl
@[simp] theorem pipeCounterReset_pipe_remaining (s : State) : (s.pipeCounterReset).pipe.remaining = 0#16 := rfl
@[simp] theorem pipeCounterReset_pipe_frameLen (s : State) : (s.pipeCounterReset).pipe.frameLen = 0#16 := rfl
@[simp] theorem pipeCounterReset_pipe_result (s : State) : (s.pipeCounterReset).pipe.result = s.pipe.result := rfl
@[simp] theorem pipeCounterReset_status_fault (s : State) : (s.pipeCounterReset).status.fault = s.status.fault := rfl
@[simp] theorem pipeCounterReset_status_payloadOk (s : State) : (s.pipeCounterReset).status.payloadOk = s.status.payloadOk := rfl
@[simp] theorem pipeCounterReset_status_pipeHdrKnown (s : State) : (s.pipeCounterReset).status.pipeHdrKnown = false := rfl
@[simp] theorem pipeCounterReset_status_barkerFound (s : State) : (s.pipeCounterReset).status.barkerFound = s.status.barkerFound := rfl
@[simp] theorem pipeCounterReset_status_pipeDone (s : State) : (s.pipeCounterReset).status.pipeDone = s.status.pipeDone := rfl

/-! ### rxReset -/

@[simp] theorem rxReset_rxEn (s : State) : (s.rxReset).rxEn = s.rxEn := rfl
@[simp] theorem rxReset_cmd (s : State) : (s.rxReset).cmd = s.cmd := rfl
@[simp] theorem rxReset_result (s : State) : (s.rxReset).result = s.result := rfl
@[simp] theorem rxReset_event (s : State) : (s.rxReset).event = s.event := rfl
@[simp] theorem rxReset_irqEn (s : State) : (s.rxReset).irqEn = s.irqEn := rfl
@[simp] theorem rxReset_faultInfo (s : State) : (s.rxReset).faultInfo = s.faultInfo := rfl
@[simp] theorem rxReset_args (s : State) : (s.rxReset).args = s.args := rfl
@[simp] theorem rxReset_txFrameLen (s : State) : (s.rxReset).txFrameLen = s.txFrameLen := rfl
@[simp] theorem rxReset_txh (s : State) : (s.rxReset).txh = s.txh := rfl
@[simp] theorem rxReset_rxh (s : State) : (s.rxReset).rxh = s.rxh := rfl
@[simp] theorem rxReset_part (s : State) : (s.rxReset).part = s.part := rfl
@[simp] theorem rxReset_codec (s : State) : (s.rxReset).codec = s.codec := rfl
@[simp] theorem rxReset_lfsrTx (s : State) : (s.rxReset).lfsrTx = s.lfsrTx := rfl
@[simp] theorem rxReset_lfsrRx (s : State) : (s.rxReset).lfsrRx = s.lfsrRx := rfl
@[simp] theorem rxReset_cfg (s : State) : (s.rxReset).cfg = s.cfg := rfl
@[simp] theorem rxReset_pending (s : State) : (s.rxReset).pending = s.pending := rfl
@[simp] theorem rxReset_mem (s : State) : (s.rxReset).mem = s.mem := rfl
@[simp] theorem rxReset_rxPos (s : State) : (s.rxReset).rxPos = s.rxPos := rfl
@[simp] theorem rxReset_inputs (s : State) : (s.rxReset).inputs = s.inputs := rfl
@[simp] theorem rxReset_busOut (s : State) : (s.rxReset).busOut = s.busOut := rfl
@[simp] theorem rxReset_draws (s : State) : (s.rxReset).draws = s.draws := rfl
@[simp] theorem rxReset_rx (s : State) : (s.rxReset).rx = RxRegs.zero := rfl
@[simp] theorem rxReset_prev (s : State) : (s.rxReset).prev = none := rfl
@[simp] theorem rxReset_pipe_count (s : State) : (s.rxReset).pipe.count = 0#16 := rfl
@[simp] theorem rxReset_pipe_remaining (s : State) : (s.rxReset).pipe.remaining = 0#16 := rfl
@[simp] theorem rxReset_pipe_frameLen (s : State) : (s.rxReset).pipe.frameLen = 0#16 := rfl
@[simp] theorem rxReset_pipe_result (s : State) : (s.rxReset).pipe.result = s.pipe.result := rfl
@[simp] theorem rxReset_status_fault (s : State) : (s.rxReset).status.fault = s.status.fault := rfl
@[simp] theorem rxReset_status_payloadOk (s : State) : (s.rxReset).status.payloadOk = s.status.payloadOk := rfl
@[simp] theorem rxReset_status_pipeHdrKnown (s : State) : (s.rxReset).status.pipeHdrKnown = false := rfl
@[simp] theorem rxReset_status_barkerFound (s : State) : (s.rxReset).status.barkerFound = s.status.barkerFound := rfl
@[simp] theorem rxReset_status_pipeDone (s : State) : (s.rxReset).status.pipeDone = s.status.pipeDone := rfl

/-! ### feedBarker -/

@[simp] theorem feedBarker_rxEn (s : State) (b : Bool) : (s.feedBarker b).rxEn = s.rxEn := rfl
@[simp] theorem feedBarker_cmd (s : State) (b : Bool) : (s.feedBarker b).cmd = s.cmd := rfl
@[simp] theorem feedBarker_result (s : State) (b : Bool) : (s.feedBarker b).result = s.result := rfl
@[simp] theorem feedBarker_event (s : State) (b : Bool) : (s.feedBarker b).event = s.event := rfl
@[simp] theorem feedBarker_irqEn (s : State) (b : Bool) : (s.feedBarker b).irqEn = s.irqEn := rfl
@[simp] theorem feedBarker_faultInfo (s : State) (b : Bool) : (s.feedBarker b).faultInfo = s.faultInfo := rfl
@[simp] theorem feedBarker_args (s : State) (b : Bool) : (s.feedBarker b).args = s.args := rfl
@[simp] theorem feedBarker_txFrameLen (s : State) (b : Bool) : (s.feedBarker b).txFrameLen = s.txFrameLen := rfl
@[simp] theorem feedBarker_txh (s : State) (b : Bool) : (s.feedBarker b).txh = s.txh := rfl
@[simp] theorem feedBarker_rxh (s : State) (b : Bool) : (s.feedBarker b).rxh = s.rxh := rfl
@[simp] theorem feedBarker_part (s : State) (b : Bool) : (s.feedBarker b).part = s.part := rfl
@[simp] theorem feedBarker_codec (s : State) (b : Bool) : (s.feedBarker b).codec = s.codec := rfl
@[simp] theorem feedBarker_lfsrTx (s : State) (b : Bool) : (s.feedBarker b).lfsrTx = s.lfsrTx := rfl
@[simp] theorem feedBarker_lfsrRx (s : State) (b : Bool) : (s.feedBarker b).lfsrRx = s.lfsrRx := rfl
@[simp] theorem feedBarker_pipe (s : State) (b : Bool) : (s.feedBarker b).pipe = s.pipe := rfl
@[simp] theorem feedBarker_cfg (s : State) (b : Bool) : (s.feedBarker b).cfg = s.cfg := rfl
@[simp] theorem feedBarker_pending (s : State) (b : Bool) : (s.feedBarker b).pending = s.pending := rfl
@[simp] theorem feedBarker_prev (s : State) (b : Bool) : (s.feedBarker b).prev = s.prev := rfl
@[simp] theorem feedBarker_mem (s : State) (b : Bool) : (s.feedBarker b).mem = s.mem := rfl
@[simp] theorem feedBarker_rxPos (s : State) (b : Bool) : (s.feedBarker b).rxPos = s.rxPos := rfl
@[simp] theorem feedBarker_inputs (s : State) (b : Bool) : (s.feedBarker b).inputs = s.inputs := rfl
@[simp] theorem feedBarker_busOut (s : State) (b : Bool) : (s.feedBarker b).busOut = s.busOut := rfl
@[simp] theorem feedBarker_draws (s : State) (b : Bool) : (s.feedBarker b).draws = s.draws := rfl
@[simp] theorem feedBarker_rx_barkerState (s : State) (b : Bool) : (s.feedBarker b).rx.barkerState = (barkerStep s.rx.barkerState b).1 := rfl
@[simp] theorem feedBarker_rx_state (s : State) (b : Bool) : (s.feedBarker b).rx.state = s.rx.state := rfl
@[simp] theorem feedBarker_rx_cohCount (s : State) (b : Bool) : (s.feedBarker b).rx.cohCount = s.rx.cohCount := rfl
@[simp] theorem feedBarker_rx_winCount (s : State) (b : Bool) : (s.feedBarker b).rx.winCount = s.rx.winCount := rfl
@[simp] theorem feedBarker_rx_barkerCount (s : State) (b : Bool) : (s.feedBarker b).rx.barkerCount = s.rx.barkerCount := rfl
@[simp] theorem feedBarker_rx_sepRemaining (s : State) (b : Bool) : (s.feedBarker b).rx.sepRemaining = s.rx.sepRemaining := rfl
@[simp] theorem feedBarker_rx_gain (s : State) (b : Bool) : (s.feedBarker b).rx.gain = s.rx.gain := rfl
@[simp] theorem feedBarker_rx_bitCount (s : State) (b : Bool) : (s.feedBarker b).rx.bitCount = s.rx.bitCount := rfl
@[simp] theorem feedBarker_rx_shift (s : State) (b : Bool) : (s.feedBarker b).rx.shift = s.rx.shift := rfl
@[simp] theorem feedBarker_status_fault (s : State) (b : Bool) : (s.feedBarker b).status.fault = s.status.fault := rfl
@[simp] theorem feedBarker_status_payloadOk (s : State) (b : Bool) : (s.feedBarker b).status.payloadOk = s.status.payloadOk := rfl
@[simp] theorem feedBarker_status_pipeHdrKnown (s : State) (b : Bool) : (s.feedBarker b).status.pipeHdrKnown = s.status.pipeHdrKnown := rfl
@[simp] theorem feedBarker_status_barkerFound (s : State) (b : Bool) : (s.feedBarker b).status.barkerFound = (barkerStep s.rx.barkerState b).2 := rfl
@[simp] theorem feedBarker_status_pipeDone (s : State) (b : Bool) : (s.feedBarker b).status.pipeDone = s.status.pipeDone := rfl

/-! ### setPayResult -/

@[simp] theorem setPayResult_rxEn (s : State) (len : Nat) (r : PayResult) : (s.setPayResult len r).rxEn = s.rxEn := rfl
@[simp] theorem setPayResult_cmd (s : State) (len : Nat) (r : PayResult) : (s.setPayResult len r).cmd = s.cmd := rfl
@[simp] theorem setPayResult_result (s : State) (len : Nat) (r : PayResult) : (s.setPayResult len r).result = s.result := rfl
@[simp] theorem setPayResult_event (s : State) (len : Nat) (r : PayResult) : (s.setPayResult len r).event = s.event := rfl
@[simp] theorem setPayResult_irqEn (s : State) (len : Nat) (r : PayResult) : (s.setPayResult len r).irqEn = s.irqEn := rfl
@[simp] theorem setPayResult_faultInfo (s : State) (len : Nat) (r : PayResult) : (s.setPayResult len r).faultInfo = s.faultInfo := rfl
@[simp] theorem setPayResult_args (s : State) (len : Nat) (r : PayResult) : (s.setPayResult len r).args = s.args := rfl
@[simp] theorem setPayResult_txFrameLen (s : State) (len : Nat) (r : PayResult) : (s.setPayResult len r).txFrameLen = s.txFrameLen := rfl
@[simp] theorem setPayResult_txh (s : State) (len : Nat) (r : PayResult) : (s.setPayResult len r).txh = s.txh := rfl
@[simp] theorem setPayResult_rxh (s : State) (len : Nat) (r : PayResult) : (s.setPayResult len r).rxh = s.rxh := rfl
@[simp] theorem setPayResult_lfsrTx (s : State) (len : Nat) (r : PayResult) : (s.setPayResult len r).lfsrTx = s.lfsrTx := rfl
@[simp] theorem setPayResult_lfsrRx (s : State) (len : Nat) (r : PayResult) : (s.setPayResult len r).lfsrRx = s.lfsrRx := rfl
@[simp] theorem setPayResult_rx (s : State) (len : Nat) (r : PayResult) : (s.setPayResult len r).rx = s.rx := rfl
@[simp] theorem setPayResult_pipe (s : State) (len : Nat) (r : PayResult) : (s.setPayResult len r).pipe = s.pipe := rfl
@[simp] theorem setPayResult_cfg (s : State) (len : Nat) (r : PayResult) : (s.setPayResult len r).cfg = s.cfg := rfl
@[simp] theorem setPayResult_pending (s : State) (len : Nat) (r : PayResult) : (s.setPayResult len r).pending = s.pending := rfl
@[simp] theorem setPayResult_prev (s : State) (len : Nat) (r : PayResult) : (s.setPayResult len r).prev = s.prev := rfl
@[simp] theorem setPayResult_mem (s : State) (len : Nat) (r : PayResult) : (s.setPayResult len r).mem = s.mem := rfl
@[simp] theorem setPayResult_rxPos (s : State) (len : Nat) (r : PayResult) : (s.setPayResult len r).rxPos = s.rxPos := rfl
@[simp] theorem setPayResult_inputs (s : State) (len : Nat) (r : PayResult) : (s.setPayResult len r).inputs = s.inputs := rfl
@[simp] theorem setPayResult_busOut (s : State) (len : Nat) (r : PayResult) : (s.setPayResult len r).busOut = s.busOut := rfl
@[simp] theorem setPayResult_part (s : State) (len : Nat) (r : PayResult) : (s.setPayResult len r).part = partRegsOf len := rfl
@[simp] theorem setPayResult_codec_blockFail (s : State) (len : Nat) (r : PayResult) : (s.setPayResult len r).codec.blockFail = r.failMask := rfl
@[simp] theorem setPayResult_codec_corrPay (s : State) (len : Nat) (r : PayResult) : (s.setPayResult len r).codec.corrPay = BitVec.ofNat 16 r.corr := rfl
@[simp] theorem setPayResult_codec_corrHdr (s : State) (len : Nat) (r : PayResult) : (s.setPayResult len r).codec.corrHdr = s.codec.corrHdr := rfl
@[simp] theorem setPayResult_codec_corrRs (s : State) (len : Nat) (r : PayResult) : (s.setPayResult len r).codec.corrRs = s.codec.corrRs := rfl
@[simp] theorem setPayResult_draws (s : State) (len : Nat) (r : PayResult) : (s.setPayResult len r).draws = r.draws := rfl
@[simp] theorem setPayResult_status_fault (s : State) (len : Nat) (r : PayResult) : (s.setPayResult len r).status.fault = s.status.fault := rfl
@[simp] theorem setPayResult_status_payloadOk (s : State) (len : Nat) (r : PayResult) : (s.setPayResult len r).status.payloadOk = r.ok := rfl
@[simp] theorem setPayResult_status_pipeHdrKnown (s : State) (len : Nat) (r : PayResult) : (s.setPayResult len r).status.pipeHdrKnown = s.status.pipeHdrKnown := rfl
@[simp] theorem setPayResult_status_barkerFound (s : State) (len : Nat) (r : PayResult) : (s.setPayResult len r).status.barkerFound = s.status.barkerFound := rfl
@[simp] theorem setPayResult_status_pipeDone (s : State) (len : Nat) (r : PayResult) : (s.setPayResult len r).status.pipeDone = s.status.pipeDone := rfl

/-! ### setFrameResult -/

@[simp] theorem setFrameResult_rxEn (s : State) (dst : Nat) (h : HeaderRegs) (hs : List Byte) (ch : Nat) (r : PayResult) : (s.setFrameResult dst h hs ch r).rxEn = s.rxEn := rfl
@[simp] theorem setFrameResult_cmd (s : State) (dst : Nat) (h : HeaderRegs) (hs : List Byte) (ch : Nat) (r : PayResult) : (s.setFrameResult dst h hs ch r).cmd = s.cmd := rfl
@[simp] theorem setFrameResult_result (s : State) (dst : Nat) (h : HeaderRegs) (hs : List Byte) (ch : Nat) (r : PayResult) : (s.setFrameResult dst h hs ch r).result = s.result := rfl
@[simp] theorem setFrameResult_event (s : State) (dst : Nat) (h : HeaderRegs) (hs : List Byte) (ch : Nat) (r : PayResult) : (s.setFrameResult dst h hs ch r).event = s.event := rfl
@[simp] theorem setFrameResult_irqEn (s : State) (dst : Nat) (h : HeaderRegs) (hs : List Byte) (ch : Nat) (r : PayResult) : (s.setFrameResult dst h hs ch r).irqEn = s.irqEn := rfl
@[simp] theorem setFrameResult_faultInfo (s : State) (dst : Nat) (h : HeaderRegs) (hs : List Byte) (ch : Nat) (r : PayResult) : (s.setFrameResult dst h hs ch r).faultInfo = s.faultInfo := rfl
@[simp] theorem setFrameResult_args (s : State) (dst : Nat) (h : HeaderRegs) (hs : List Byte) (ch : Nat) (r : PayResult) : (s.setFrameResult dst h hs ch r).args = s.args := rfl
@[simp] theorem setFrameResult_txFrameLen (s : State) (dst : Nat) (h : HeaderRegs) (hs : List Byte) (ch : Nat) (r : PayResult) : (s.setFrameResult dst h hs ch r).txFrameLen = s.txFrameLen := rfl
@[simp] theorem setFrameResult_txh (s : State) (dst : Nat) (h : HeaderRegs) (hs : List Byte) (ch : Nat) (r : PayResult) : (s.setFrameResult dst h hs ch r).txh = s.txh := rfl
@[simp] theorem setFrameResult_lfsrTx (s : State) (dst : Nat) (h : HeaderRegs) (hs : List Byte) (ch : Nat) (r : PayResult) : (s.setFrameResult dst h hs ch r).lfsrTx = s.lfsrTx := rfl
@[simp] theorem setFrameResult_rx (s : State) (dst : Nat) (h : HeaderRegs) (hs : List Byte) (ch : Nat) (r : PayResult) : (s.setFrameResult dst h hs ch r).rx = s.rx := rfl
@[simp] theorem setFrameResult_pipe (s : State) (dst : Nat) (h : HeaderRegs) (hs : List Byte) (ch : Nat) (r : PayResult) : (s.setFrameResult dst h hs ch r).pipe = s.pipe := rfl
@[simp] theorem setFrameResult_cfg (s : State) (dst : Nat) (h : HeaderRegs) (hs : List Byte) (ch : Nat) (r : PayResult) : (s.setFrameResult dst h hs ch r).cfg = s.cfg := rfl
@[simp] theorem setFrameResult_pending (s : State) (dst : Nat) (h : HeaderRegs) (hs : List Byte) (ch : Nat) (r : PayResult) : (s.setFrameResult dst h hs ch r).pending = s.pending := rfl
@[simp] theorem setFrameResult_prev (s : State) (dst : Nat) (h : HeaderRegs) (hs : List Byte) (ch : Nat) (r : PayResult) : (s.setFrameResult dst h hs ch r).prev = s.prev := rfl
@[simp] theorem setFrameResult_rxPos (s : State) (dst : Nat) (h : HeaderRegs) (hs : List Byte) (ch : Nat) (r : PayResult) : (s.setFrameResult dst h hs ch r).rxPos = s.rxPos := rfl
@[simp] theorem setFrameResult_inputs (s : State) (dst : Nat) (h : HeaderRegs) (hs : List Byte) (ch : Nat) (r : PayResult) : (s.setFrameResult dst h hs ch r).inputs = s.inputs := rfl
@[simp] theorem setFrameResult_busOut (s : State) (dst : Nat) (h : HeaderRegs) (hs : List Byte) (ch : Nat) (r : PayResult) : (s.setFrameResult dst h hs ch r).busOut = s.busOut := rfl
@[simp] theorem setFrameResult_mem (s : State) (dst : Nat) (h : HeaderRegs) (hs : List Byte) (ch : Nat) (r : PayResult) : (s.setFrameResult dst h hs ch r).mem = Memory.writeBytes s.mem dst (((descramble (hs ++ r.data)).1.drop Config.hdrLen).take h.size.toNat) := rfl
@[simp] theorem setFrameResult_rxh (s : State) (dst : Nat) (h : HeaderRegs) (hs : List Byte) (ch : Nat) (r : PayResult) : (s.setFrameResult dst h hs ch r).rxh = unpack ((descramble (hs ++ r.data)).1.take Config.hdrLen) := rfl
@[simp] theorem setFrameResult_lfsrRx (s : State) (dst : Nat) (h : HeaderRegs) (hs : List Byte) (ch : Nat) (r : PayResult) : (s.setFrameResult dst h hs ch r).lfsrRx = (descramble (hs ++ r.data)).2 := rfl
@[simp] theorem setFrameResult_part (s : State) (dst : Nat) (h : HeaderRegs) (hs : List Byte) (ch : Nat) (r : PayResult) : (s.setFrameResult dst h hs ch r).part = partRegsOf h.size.toNat := rfl
@[simp] theorem setFrameResult_codec_blockFail (s : State) (dst : Nat) (h : HeaderRegs) (hs : List Byte) (ch : Nat) (r : PayResult) : (s.setFrameResult dst h hs ch r).codec.blockFail = r.failMask := rfl
@[simp] theorem setFrameResult_codec_corrPay (s : State) (dst : Nat) (h : HeaderRegs) (hs : List Byte) (ch : Nat) (r : PayResult) : (s.setFrameResult dst h hs ch r).codec.corrPay = BitVec.ofNat 16 r.corr := rfl
@[simp] theorem setFrameResult_codec_corrHdr (s : State) (dst : Nat) (h : HeaderRegs) (hs : List Byte) (ch : Nat) (r : PayResult) : (s.setFrameResult dst h hs ch r).codec.corrHdr = BitVec.ofNat 8 ch := rfl
@[simp] theorem setFrameResult_codec_corrRs (s : State) (dst : Nat) (h : HeaderRegs) (hs : List Byte) (ch : Nat) (r : PayResult) : (s.setFrameResult dst h hs ch r).codec.corrRs = s.codec.corrRs := rfl
@[simp] theorem setFrameResult_draws (s : State) (dst : Nat) (h : HeaderRegs) (hs : List Byte) (ch : Nat) (r : PayResult) : (s.setFrameResult dst h hs ch r).draws = r.draws := rfl
@[simp] theorem setFrameResult_status_fault (s : State) (dst : Nat) (h : HeaderRegs) (hs : List Byte) (ch : Nat) (r : PayResult) : (s.setFrameResult dst h hs ch r).status.fault = s.status.fault := rfl
@[simp] theorem setFrameResult_status_payloadOk (s : State) (dst : Nat) (h : HeaderRegs) (hs : List Byte) (ch : Nat) (r : PayResult) : (s.setFrameResult dst h hs ch r).status.payloadOk = r.ok := rfl
@[simp] theorem setFrameResult_status_pipeHdrKnown (s : State) (dst : Nat) (h : HeaderRegs) (hs : List Byte) (ch : Nat) (r : PayResult) : (s.setFrameResult dst h hs ch r).status.pipeHdrKnown = s.status.pipeHdrKnown := rfl
@[simp] theorem setFrameResult_status_barkerFound (s : State) (dst : Nat) (h : HeaderRegs) (hs : List Byte) (ch : Nat) (r : PayResult) : (s.setFrameResult dst h hs ch r).status.barkerFound = s.status.barkerFound := rfl
@[simp] theorem setFrameResult_status_pipeDone (s : State) (dst : Nat) (h : HeaderRegs) (hs : List Byte) (ch : Nat) (r : PayResult) : (s.setFrameResult dst h hs ch r).status.pipeDone = s.status.pipeDone := rfl

/-! ### pipeStore -/

@[simp] theorem pipeStore_rxEn (s : State) (b : Byte) : (s.pipeStore b).rxEn = s.rxEn := rfl
@[simp] theorem pipeStore_cmd (s : State) (b : Byte) : (s.pipeStore b).cmd = s.cmd := rfl
@[simp] theorem pipeStore_result (s : State) (b : Byte) : (s.pipeStore b).result = s.result := rfl
@[simp] theorem pipeStore_event (s : State) (b : Byte) : (s.pipeStore b).event = s.event := rfl
@[simp] theorem pipeStore_irqEn (s : State) (b : Byte) : (s.pipeStore b).irqEn = s.irqEn := rfl
@[simp] theorem pipeStore_faultInfo (s : State) (b : Byte) : (s.pipeStore b).faultInfo = s.faultInfo := rfl
@[simp] theorem pipeStore_args (s : State) (b : Byte) : (s.pipeStore b).args = s.args := rfl
@[simp] theorem pipeStore_txFrameLen (s : State) (b : Byte) : (s.pipeStore b).txFrameLen = s.txFrameLen := rfl
@[simp] theorem pipeStore_txh (s : State) (b : Byte) : (s.pipeStore b).txh = s.txh := rfl
@[simp] theorem pipeStore_rxh (s : State) (b : Byte) : (s.pipeStore b).rxh = s.rxh := rfl
@[simp] theorem pipeStore_part (s : State) (b : Byte) : (s.pipeStore b).part = s.part := rfl
@[simp] theorem pipeStore_codec (s : State) (b : Byte) : (s.pipeStore b).codec = s.codec := rfl
@[simp] theorem pipeStore_lfsrTx (s : State) (b : Byte) : (s.pipeStore b).lfsrTx = s.lfsrTx := rfl
@[simp] theorem pipeStore_lfsrRx (s : State) (b : Byte) : (s.pipeStore b).lfsrRx = s.lfsrRx := rfl
@[simp] theorem pipeStore_rx (s : State) (b : Byte) : (s.pipeStore b).rx = s.rx := rfl
@[simp] theorem pipeStore_cfg (s : State) (b : Byte) : (s.pipeStore b).cfg = s.cfg := rfl
@[simp] theorem pipeStore_pending (s : State) (b : Byte) : (s.pipeStore b).pending = s.pending := rfl
@[simp] theorem pipeStore_prev (s : State) (b : Byte) : (s.pipeStore b).prev = s.prev := rfl
@[simp] theorem pipeStore_rxPos (s : State) (b : Byte) : (s.pipeStore b).rxPos = s.rxPos := rfl
@[simp] theorem pipeStore_inputs (s : State) (b : Byte) : (s.pipeStore b).inputs = s.inputs := rfl
@[simp] theorem pipeStore_busOut (s : State) (b : Byte) : (s.pipeStore b).busOut = s.busOut := rfl
@[simp] theorem pipeStore_draws (s : State) (b : Byte) : (s.pipeStore b).draws = s.draws := rfl
@[simp] theorem pipeStore_mem (s : State) (b : Byte) : (s.pipeStore b).mem = Memory.write s.mem (frameRx + s.pipe.count.toNat) b := rfl
@[simp] theorem pipeStore_pipe_count (s : State) (b : Byte) : (s.pipeStore b).pipe.count = s.pipe.count + 1#16 := rfl
@[simp] theorem pipeStore_pipe_remaining (s : State) (b : Byte) : (s.pipeStore b).pipe.remaining = s.pipe.remaining := rfl
@[simp] theorem pipeStore_pipe_frameLen (s : State) (b : Byte) : (s.pipeStore b).pipe.frameLen = s.pipe.frameLen := rfl
@[simp] theorem pipeStore_pipe_result (s : State) (b : Byte) : (s.pipeStore b).pipe.result = s.pipe.result := rfl
@[simp] theorem pipeStore_status_fault (s : State) (b : Byte) : (s.pipeStore b).status.fault = s.status.fault := rfl
@[simp] theorem pipeStore_status_payloadOk (s : State) (b : Byte) : (s.pipeStore b).status.payloadOk = s.status.payloadOk := rfl
@[simp] theorem pipeStore_status_pipeHdrKnown (s : State) (b : Byte) : (s.pipeStore b).status.pipeHdrKnown = s.status.pipeHdrKnown := rfl
@[simp] theorem pipeStore_status_barkerFound (s : State) (b : Byte) : (s.pipeStore b).status.barkerFound = s.status.barkerFound := rfl
@[simp] theorem pipeStore_status_pipeDone (s : State) (b : Byte) : (s.pipeStore b).status.pipeDone = false := rfl

/-! ### countSearch -/

@[simp] theorem countSearch_rxEn (s : State) (c : Bool) : (s.countSearch c).rxEn = s.rxEn := rfl
@[simp] theorem countSearch_cmd (s : State) (c : Bool) : (s.countSearch c).cmd = s.cmd := rfl
@[simp] theorem countSearch_status (s : State) (c : Bool) : (s.countSearch c).status = s.status := rfl
@[simp] theorem countSearch_result (s : State) (c : Bool) : (s.countSearch c).result = s.result := rfl
@[simp] theorem countSearch_event (s : State) (c : Bool) : (s.countSearch c).event = s.event := rfl
@[simp] theorem countSearch_irqEn (s : State) (c : Bool) : (s.countSearch c).irqEn = s.irqEn := rfl
@[simp] theorem countSearch_faultInfo (s : State) (c : Bool) : (s.countSearch c).faultInfo = s.faultInfo := rfl
@[simp] theorem countSearch_args (s : State) (c : Bool) : (s.countSearch c).args = s.args := rfl
@[simp] theorem countSearch_txFrameLen (s : State) (c : Bool) : (s.countSearch c).txFrameLen = s.txFrameLen := rfl
@[simp] theorem countSearch_txh (s : State) (c : Bool) : (s.countSearch c).txh = s.txh := rfl
@[simp] theorem countSearch_rxh (s : State) (c : Bool) : (s.countSearch c).rxh = s.rxh := rfl
@[simp] theorem countSearch_part (s : State) (c : Bool) : (s.countSearch c).part = s.part := rfl
@[simp] theorem countSearch_codec (s : State) (c : Bool) : (s.countSearch c).codec = s.codec := rfl
@[simp] theorem countSearch_lfsrTx (s : State) (c : Bool) : (s.countSearch c).lfsrTx = s.lfsrTx := rfl
@[simp] theorem countSearch_lfsrRx (s : State) (c : Bool) : (s.countSearch c).lfsrRx = s.lfsrRx := rfl
@[simp] theorem countSearch_pipe (s : State) (c : Bool) : (s.countSearch c).pipe = s.pipe := rfl
@[simp] theorem countSearch_cfg (s : State) (c : Bool) : (s.countSearch c).cfg = s.cfg := rfl
@[simp] theorem countSearch_pending (s : State) (c : Bool) : (s.countSearch c).pending = s.pending := rfl
@[simp] theorem countSearch_prev (s : State) (c : Bool) : (s.countSearch c).prev = s.prev := rfl
@[simp] theorem countSearch_mem (s : State) (c : Bool) : (s.countSearch c).mem = s.mem := rfl
@[simp] theorem countSearch_rxPos (s : State) (c : Bool) : (s.countSearch c).rxPos = s.rxPos := rfl
@[simp] theorem countSearch_inputs (s : State) (c : Bool) : (s.countSearch c).inputs = s.inputs := rfl
@[simp] theorem countSearch_busOut (s : State) (c : Bool) : (s.countSearch c).busOut = s.busOut := rfl
@[simp] theorem countSearch_draws (s : State) (c : Bool) : (s.countSearch c).draws = s.draws := rfl
@[simp] theorem countSearch_rx_winCount (s : State) (c : Bool) : (s.countSearch c).rx.winCount = satSucc s.rx.winCount := rfl
@[simp] theorem countSearch_rx_cohCount (s : State) (c : Bool) : (s.countSearch c).rx.cohCount = if c then satSucc s.rx.cohCount else 0#16 := rfl
@[simp] theorem countSearch_rx_state (s : State) (c : Bool) : (s.countSearch c).rx.state = if c then RxState.coherenceAccumulating else RxState.idle := rfl
@[simp] theorem countSearch_rx_barkerState (s : State) (c : Bool) : (s.countSearch c).rx.barkerState = s.rx.barkerState := rfl
@[simp] theorem countSearch_rx_barkerCount (s : State) (c : Bool) : (s.countSearch c).rx.barkerCount = s.rx.barkerCount := rfl
@[simp] theorem countSearch_rx_sepRemaining (s : State) (c : Bool) : (s.countSearch c).rx.sepRemaining = s.rx.sepRemaining := rfl
@[simp] theorem countSearch_rx_gain (s : State) (c : Bool) : (s.countSearch c).rx.gain = s.rx.gain := rfl
@[simp] theorem countSearch_rx_bitCount (s : State) (c : Bool) : (s.countSearch c).rx.bitCount = s.rx.bitCount := rfl
@[simp] theorem countSearch_rx_shift (s : State) (c : Bool) : (s.countSearch c).rx.shift = s.rx.shift := rfl

/-! ### softReset -/

@[simp] theorem softReset_rxEn (s : State) : (s.softReset).rxEn = State.reset.rxEn := rfl
@[simp] theorem softReset_cmd (s : State) : (s.softReset).cmd = State.reset.cmd := rfl
@[simp] theorem softReset_status (s : State) : (s.softReset).status = State.reset.status := rfl
@[simp] theorem softReset_result (s : State) : (s.softReset).result = State.reset.result := rfl
@[simp] theorem softReset_event (s : State) : (s.softReset).event = State.reset.event := rfl
@[simp] theorem softReset_irqEn (s : State) : (s.softReset).irqEn = State.reset.irqEn := rfl
@[simp] theorem softReset_faultInfo (s : State) : (s.softReset).faultInfo = State.reset.faultInfo := rfl
@[simp] theorem softReset_args (s : State) : (s.softReset).args = State.reset.args := rfl
@[simp] theorem softReset_txFrameLen (s : State) : (s.softReset).txFrameLen = State.reset.txFrameLen := rfl
@[simp] theorem softReset_txh (s : State) : (s.softReset).txh = State.reset.txh := rfl
@[simp] theorem softReset_rxh (s : State) : (s.softReset).rxh = State.reset.rxh := rfl
@[simp] theorem softReset_part (s : State) : (s.softReset).part = State.reset.part := rfl
@[simp] theorem softReset_codec (s : State) : (s.softReset).codec = State.reset.codec := rfl
@[simp] theorem softReset_lfsrTx (s : State) : (s.softReset).lfsrTx = State.reset.lfsrTx := rfl
@[simp] theorem softReset_lfsrRx (s : State) : (s.softReset).lfsrRx = State.reset.lfsrRx := rfl
@[simp] theorem softReset_rx (s : State) : (s.softReset).rx = State.reset.rx := rfl
@[simp] theorem softReset_pipe (s : State) : (s.softReset).pipe = State.reset.pipe := rfl
@[simp] theorem softReset_cfg (s : State) : (s.softReset).cfg = State.reset.cfg := rfl
@[simp] theorem softReset_pending (s : State) : (s.softReset).pending = State.reset.pending := rfl
@[simp] theorem softReset_prev (s : State) : (s.softReset).prev = State.reset.prev := rfl
@[simp] theorem softReset_mem (s : State) : (s.softReset).mem = s.mem := rfl
@[simp] theorem softReset_rxPos (s : State) : (s.softReset).rxPos = 0 := rfl
@[simp] theorem softReset_inputs (s : State) : (s.softReset).inputs = s.inputs := rfl
@[simp] theorem softReset_busOut (s : State) : (s.softReset).busOut = s.busOut := rfl
@[simp] theorem softReset_draws (s : State) : (s.softReset).draws = s.draws := rfl

/-! ### raiseFault -/

@[simp] theorem raiseFault_rxEn (s : State) (c : ResultCode) (o : Byte) : (s.raiseFault c o).rxEn = s.rxEn := by
  unfold State.raiseFault; split <;> rfl
@[simp] theorem raiseFault_cmd (s : State) (c : ResultCode) (o : Byte) : (s.raiseFault c o).cmd = s.cmd := by
  unfold State.raiseFault; split <;> rfl
@[simp] theorem raiseFault_result (s : State) (c : ResultCode) (o : Byte) : (s.raiseFault c o).result = s.result := by
  unfold State.raiseFault; split <;> rfl
@[simp] theorem raiseFault_irqEn (s : State) (c : ResultCode) (o : Byte) : (s.raiseFault c o).irqEn = s.irqEn := by
  unfold State.raiseFault; split <;> rfl
@[simp] theorem raiseFault_args (s : State) (c : ResultCode) (o : Byte) : (s.raiseFault c o).args = s.args := by
  unfold State.raiseFault; split <;> rfl
@[simp] theorem raiseFault_txFrameLen (s : State) (c : ResultCode) (o : Byte) : (s.raiseFault c o).txFrameLen = s.txFrameLen := by
  unfold State.raiseFault; split <;> rfl
@[simp] theorem raiseFault_txh (s : State) (c : ResultCode) (o : Byte) : (s.raiseFault c o).txh = s.txh := by
  unfold State.raiseFault; split <;> rfl
@[simp] theorem raiseFault_rxh (s : State) (c : ResultCode) (o : Byte) : (s.raiseFault c o).rxh = s.rxh := by
  unfold State.raiseFault; split <;> rfl
@[simp] theorem raiseFault_part (s : State) (c : ResultCode) (o : Byte) : (s.raiseFault c o).part = s.part := by
  unfold State.raiseFault; split <;> rfl
@[simp] theorem raiseFault_codec (s : State) (c : ResultCode) (o : Byte) : (s.raiseFault c o).codec = s.codec := by
  unfold State.raiseFault; split <;> rfl
@[simp] theorem raiseFault_lfsrTx (s : State) (c : ResultCode) (o : Byte) : (s.raiseFault c o).lfsrTx = s.lfsrTx := by
  unfold State.raiseFault; split <;> rfl
@[simp] theorem raiseFault_lfsrRx (s : State) (c : ResultCode) (o : Byte) : (s.raiseFault c o).lfsrRx = s.lfsrRx := by
  unfold State.raiseFault; split <;> rfl
@[simp] theorem raiseFault_rx (s : State) (c : ResultCode) (o : Byte) : (s.raiseFault c o).rx = s.rx := by
  unfold State.raiseFault; split <;> rfl
@[simp] theorem raiseFault_pipe (s : State) (c : ResultCode) (o : Byte) : (s.raiseFault c o).pipe = s.pipe := by
  unfold State.raiseFault; split <;> rfl
@[simp] theorem raiseFault_cfg (s : State) (c : ResultCode) (o : Byte) : (s.raiseFault c o).cfg = s.cfg := by
  unfold State.raiseFault; split <;> rfl
@[simp] theorem raiseFault_pending (s : State) (c : ResultCode) (o : Byte) : (s.raiseFault c o).pending = s.pending := by
  unfold State.raiseFault; split <;> rfl
@[simp] theorem raiseFault_prev (s : State) (c : ResultCode) (o : Byte) : (s.raiseFault c o).prev = s.prev := by
  unfold State.raiseFault; split <;> rfl
@[simp] theorem raiseFault_mem (s : State) (c : ResultCode) (o : Byte) : (s.raiseFault c o).mem = s.mem := by
  unfold State.raiseFault; split <;> rfl
@[simp] theorem raiseFault_rxPos (s : State) (c : ResultCode) (o : Byte) : (s.raiseFault c o).rxPos = s.rxPos := by
  unfold State.raiseFault; split <;> rfl
@[simp] theorem raiseFault_inputs (s : State) (c : ResultCode) (o : Byte) : (s.raiseFault c o).inputs = s.inputs := by
  unfold State.raiseFault; split <;> rfl
@[simp] theorem raiseFault_busOut (s : State) (c : ResultCode) (o : Byte) : (s.raiseFault c o).busOut = s.busOut := by
  unfold State.raiseFault; split <;> rfl
@[simp] theorem raiseFault_draws (s : State) (c : ResultCode) (o : Byte) : (s.raiseFault c o).draws = s.draws := by
  unfold State.raiseFault; split <;> rfl
@[simp] theorem raiseFault_status_payloadOk (s : State) (c : ResultCode) (o : Byte) :
    (s.raiseFault c o).status.payloadOk = s.status.payloadOk := by
  unfold State.raiseFault; split <;> rfl
@[simp] theorem raiseFault_status_pipeHdrKnown (s : State) (c : ResultCode) (o : Byte) :
    (s.raiseFault c o).status.pipeHdrKnown = s.status.pipeHdrKnown := by
  unfold State.raiseFault; split <;> rfl
@[simp] theorem raiseFault_status_barkerFound (s : State) (c : ResultCode) (o : Byte) :
    (s.raiseFault c o).status.barkerFound = s.status.barkerFound := by
  unfold State.raiseFault; split <;> rfl
@[simp] theorem raiseFault_status_pipeDone (s : State) (c : ResultCode) (o : Byte) :
    (s.raiseFault c o).status.pipeDone = s.status.pipeDone := by
  unfold State.raiseFault; split <;> rfl
@[simp] theorem raiseFault_status_fault (s : State) (c : ResultCode) (o : Byte) :
    (s.raiseFault c o).status.fault = true := by
  unfold State.raiseFault; split
  · assumption
  · rfl
theorem raiseFault_faultInfo (s : State) (c : ResultCode) (o : Byte) :
    (s.raiseFault c o).faultInfo = if s.status.fault then s.faultInfo else ⟨o, c.value⟩ := by
  unfold State.raiseFault; split <;> rfl
theorem raiseFault_event (s : State) (c : ResultCode) (o : Byte) :
    (s.raiseFault c o).event = if s.status.fault then s.event else s.event ||| Ev.fault := by
  unfold State.raiseFault; split <;> rfl

/-! ### complete -/

@[simp] theorem complete_rxEn (s : State) (o : Byte) (c : ResultCode) : (s.complete o c).rxEn = s.rxEn := by
  cases h : c.isContract <;> simp [State.complete, h]
@[simp] theorem complete_cmd (s : State) (o : Byte) (c : ResultCode) : (s.complete o c).cmd = s.cmd := by
  cases h : c.isContract <;> simp [State.complete, h]
@[simp] theorem complete_irqEn (s : State) (o : Byte) (c : ResultCode) : (s.complete o c).irqEn = s.irqEn := by
  cases h : c.isContract <;> simp [State.complete, h]
@[simp] theorem complete_args (s : State) (o : Byte) (c : ResultCode) : (s.complete o c).args = s.args := by
  cases h : c.isContract <;> simp [State.complete, h]
@[simp] theorem complete_txFrameLen (s : State) (o : Byte) (c : ResultCode) : (s.complete o c).txFrameLen = s.txFrameLen := by
  cases h : c.isContract <;> simp [State.complete, h]
@[simp] theorem complete_txh (s : State) (o : Byte) (c : ResultCode) : (s.complete o c).txh = s.txh := by
  cases h : c.isContract <;> simp [State.complete, h]
@[simp] theorem complete_rxh (s : State) (o : Byte) (c : ResultCode) : (s.complete o c).rxh = s.rxh := by
  cases h : c.isContract <;> simp [State.complete, h]
@[simp] theorem complete_part (s : State) (o : Byte) (c : ResultCode) : (s.complete o c).part = s.part := by
  cases h : c.isContract <;> simp [State.complete, h]
@[simp] theorem complete_codec (s : State) (o : Byte) (c : ResultCode) : (s.complete o c).codec = s.codec := by
  cases h : c.isContract <;> simp [State.complete, h]
@[simp] theorem complete_lfsrTx (s : State) (o : Byte) (c : ResultCode) : (s.complete o c).lfsrTx = s.lfsrTx := by
  cases h : c.isContract <;> simp [State.complete, h]
@[simp] theorem complete_lfsrRx (s : State) (o : Byte) (c : ResultCode) : (s.complete o c).lfsrRx = s.lfsrRx := by
  cases h : c.isContract <;> simp [State.complete, h]
@[simp] theorem complete_rx (s : State) (o : Byte) (c : ResultCode) : (s.complete o c).rx = s.rx := by
  cases h : c.isContract <;> simp [State.complete, h]
@[simp] theorem complete_pipe (s : State) (o : Byte) (c : ResultCode) : (s.complete o c).pipe = s.pipe := by
  cases h : c.isContract <;> simp [State.complete, h]
@[simp] theorem complete_cfg (s : State) (o : Byte) (c : ResultCode) : (s.complete o c).cfg = s.cfg := by
  cases h : c.isContract <;> simp [State.complete, h]
@[simp] theorem complete_prev (s : State) (o : Byte) (c : ResultCode) : (s.complete o c).prev = s.prev := by
  cases h : c.isContract <;> simp [State.complete, h]
@[simp] theorem complete_mem (s : State) (o : Byte) (c : ResultCode) : (s.complete o c).mem = s.mem := by
  cases h : c.isContract <;> simp [State.complete, h]
@[simp] theorem complete_rxPos (s : State) (o : Byte) (c : ResultCode) : (s.complete o c).rxPos = s.rxPos := by
  cases h : c.isContract <;> simp [State.complete, h]
@[simp] theorem complete_inputs (s : State) (o : Byte) (c : ResultCode) : (s.complete o c).inputs = s.inputs := by
  cases h : c.isContract <;> simp [State.complete, h]
@[simp] theorem complete_busOut (s : State) (o : Byte) (c : ResultCode) : (s.complete o c).busOut = s.busOut := by
  cases h : c.isContract <;> simp [State.complete, h]
@[simp] theorem complete_draws (s : State) (o : Byte) (c : ResultCode) : (s.complete o c).draws = s.draws := by
  cases h : c.isContract <;> simp [State.complete, h]
@[simp] theorem complete_status_payloadOk (s : State) (o : Byte) (c : ResultCode) :
    (s.complete o c).status.payloadOk = s.status.payloadOk := by
  cases h : c.isContract <;> simp [State.complete, h]
@[simp] theorem complete_status_pipeHdrKnown (s : State) (o : Byte) (c : ResultCode) :
    (s.complete o c).status.pipeHdrKnown = s.status.pipeHdrKnown := by
  cases h : c.isContract <;> simp [State.complete, h]
@[simp] theorem complete_status_barkerFound (s : State) (o : Byte) (c : ResultCode) :
    (s.complete o c).status.barkerFound = s.status.barkerFound := by
  cases h : c.isContract <;> simp [State.complete, h]
@[simp] theorem complete_status_pipeDone (s : State) (o : Byte) (c : ResultCode) :
    (s.complete o c).status.pipeDone = s.status.pipeDone := by
  cases h : c.isContract <;> simp [State.complete, h]
@[simp] theorem complete_result (s : State) (o : Byte) (c : ResultCode) :
    (s.complete o c).result = ⟨o, c.value⟩ := by
  cases h : c.isContract <;> simp [State.complete, h]
@[simp] theorem complete_pending (s : State) (o : Byte) (c : ResultCode) : (s.complete o c).pending = none := by
  cases h : c.isContract <;> simp [State.complete, h]
@[simp] theorem complete_busy (s : State) (o : Byte) (c : ResultCode) : (s.complete o c).busy = false := by
  simp [State.busy]
theorem complete_status_fault (s : State) (o : Byte) (c : ResultCode) :
    (s.complete o c).status.fault = (s.status.fault || c.isContract) := by
  cases h : c.isContract <;> simp [State.complete, h]
theorem complete_faultInfo (s : State) (o : Byte) (c : ResultCode) :
    (s.complete o c).faultInfo
      = if c.isContract && !s.status.fault then ⟨o, c.value⟩ else s.faultInfo := by
  cases h : c.isContract <;> cases h' : s.status.fault <;> simp [State.complete, h, raiseFault_faultInfo, h']
theorem complete_event (s : State) (o : Byte) (c : ResultCode) :
    (s.complete o c).event
      = s.event ||| Ev.cmdDone ||| (if c = .ok then 0#11 else Ev.cmdErr)
          ||| (if c.isContract && !s.status.fault then Ev.fault else 0#11) := by
  unfold State.complete
  cases h : c.isContract <;> cases h' : s.status.fault <;> cases c <;> simp_all [raiseFault_event, ResultCode.isContract]
/-- A completion of a successful command, as one record. -/
theorem complete_ok (s : State) (o : Byte) :
    s.complete o .ok = { s with result := ⟨o, 0x00#8⟩, pending := none, event := s.event ||| Ev.cmdDone } := rfl

end Sys2Proof.Machine
end

