-- ==== Sys2Proof/Laws/Commands.lean ====
section
/-! SUPPORT. What each shared operation can answer, said once: the ordered checks, the source read, the frame of every
command, the frame decode and the pipe. Later proofs cite these instead of unfolding the operations. -/

namespace Sys2Proof.Machine

/-! ### The ordered checks -/

@[simp] theorem firstFailure_nil : firstFailure [] = none := rfl

@[simp] theorem firstFailure_cons (b : Bool) (c : ResultCode) (rest : List Check) :
    firstFailure ((b, c) :: rest) = if b then some c else firstFailure rest := rfl

/-- Every check passes exactly when none fails. -/
theorem firstFailure_eq_none (checks : List Check) : firstFailure checks = none ↔ ∀ c ∈ checks, c.1 = false := by
  induction checks with
  | nil => simp
  | cons c rest ih =>
    obtain ⟨b, code⟩ := c
    cases b <;> simp [ih]

/-- A failing list of checks answers the code of one of its members that fails. -/
theorem firstFailure_eq_some (checks : List Check) (code : ResultCode) (h : firstFailure checks = some code) :
    (true, code) ∈ checks := by
  induction checks with
  | nil => simp at h
  | cons c rest ih =>
    obtain ⟨b, code'⟩ := c
    cases b
    · simp at h; exact List.mem_cons_of_mem _ (ih h)
    · simp at h; simp [h]

/-! ### The source read -/

theorem withBytes_ok (m : Memory) (a n : Nat) (k : List Byte → Execution) (r : ResultCode × State) :
    withBytes m a n k = .ok r ↔ ∃ bytes, Memory.readBytes m a n = some bytes ∧ k bytes = .ok r := by
  unfold withBytes
  cases Memory.readBytes m a n <;> simp

theorem withBytes_error (m : Memory) (a n : Nat) (k : List Byte → Execution) (f : Fault) :
    withBytes m a n k = .error f
      ↔ (Memory.readBytes m a n = none ∧ f = .uninitRead)
        ∨ ∃ bytes, Memory.readBytes m a n = some bytes ∧ k bytes = .error f := by
  unfold withBytes
  cases Memory.readBytes m a n <;> simp [eq_comm]

@[simp] theorem withBytes_some (m : Memory) (a n : Nat) (k : List Byte → Execution) (bytes : List Byte)
    (h : Memory.readBytes m a n = some bytes) : withBytes m a n k = k bytes := by simp [withBytes, h]

/-! ### The frame of every command -/

/-- A command that answers a next state either failed a check or executed. -/
theorem runCommand_next (opc : Byte) (checks : List Check) (e : Execution) (s t : State) :
    runCommand opc checks e s = .next t
      ↔ (∃ code, firstFailure checks = some code ∧ t = s.complete opc code)
        ∨ (firstFailure checks = none ∧ ∃ code s', e = .ok (code, s') ∧ t = s'.complete opc code) := by
  unfold runCommand
  cases firstFailure checks with
  | some code => simp [eq_comm]
  | none =>
    cases e with
    | error f => simp
    | ok r => obtain ⟨code, s'⟩ := r; simp [eq_comm]

/-- A command stops only where its execution does, after every check has passed. -/
theorem runCommand_fault (opc : Byte) (checks : List Check) (e : Execution) (s : State) (f : Fault) :
    runCommand opc checks e s = .fault f ↔ firstFailure checks = none ∧ e = .error f := by
  unfold runCommand
  cases firstFailure checks with
  | some code => simp
  | none =>
    cases e with
    | error f' => simp
    | ok r => simp

/-- No command is refused. -/
theorem runCommand_ne_refused (opc : Byte) (checks : List Check) (e : Execution) (s : State) (r : Refusal) :
    runCommand opc checks e s ≠ .refused r := by
  unfold runCommand
  cases firstFailure checks with
  | some code => simp
  | none => cases e <;> simp

theorem runCommand_failed (opc : Byte) (checks : List Check) (e : Execution) (s : State) (code : ResultCode)
    (h : firstFailure checks = some code) : runCommand opc checks e s = .next (s.complete opc code) := by
  simp [runCommand, h]

theorem runCommand_executed (opc : Byte) (checks : List Check) (e : Execution) (s s' : State) (code : ResultCode)
    (h : firstFailure checks = none) (he : e = .ok (code, s')) :
    runCommand opc checks e s = .next (s'.complete opc code) := by
  simp [runCommand, h, he]

/-! ### The packed header (R99) -/

/-- A record packs exactly when its hop counts are in order, to the bytes of the layout. -/
theorem pack_eq_some (h : HeaderRegs) (b : List Byte) :
    pack h = some b ↔ h.hopsBad = false ∧ packBytes h = b := by
  unfold pack
  cases h.hopsBad <;> simp

/-- Once the hop check has passed, packing is the layout. -/
@[simp] theorem withPacked_of_ok (s : State) (k : List Byte → Execution) (h : s.txh.hopsBad = false) :
    withPacked s k = k (packBytes s.txh) := by
  simp [withPacked, pack, h]

/-- What packing can answer. -/
theorem withPacked_ok (s : State) (k : List Byte → Execution) (r : ResultCode × State) :
    withPacked s k = .ok r
      ↔ (s.txh.hopsBad = true ∧ r = (.eHops, s)) ∨ (s.txh.hopsBad = false ∧ k (packBytes s.txh) = .ok r) := by
  unfold withPacked pack
  cases s.txh.hopsBad <;> simp [eq_comm]

/-! ### The header check (R106) -/

/-- A header word the codec accepts is SIZE_BAD or GOOD by the size it carries. -/
theorem hdrCheck_of_ok (r hs : List Byte) (c : Nat) (h : hdrDec r = .ok hs c) :
    hdrCheck r
      = if sizeRefused (unpack (descramble hs).1).size.toNat then .sizeBad
        else .good (unpack (descramble hs).1) hs c (descramble hs).2 := by
  unfold hdrCheck
  rw [h]

/-- A header word the codec refuses is RS_BAD. -/
theorem hdrCheck_of_fail (r : List Byte) (h : hdrDec r = .fail) : hdrCheck r = .rsBad := by
  unfold hdrCheck
  rw [h]

/-! ### The frame decode -/

/-- What the frame decode can answer: a failed header or late check with the state unchanged, or the result set. -/
theorem decodeFrameAt_ok (src n dst : Nat) (s s' : State) (code : ResultCode)
    (h : decodeFrameAt src n dst s = .ok (code, s')) :
    (s' = s ∧ (code = .hdrRsFail ∨ code = .hdrSizeFail ∨ code = .eLength ∨ code = .eRange))
      ∨ (code = .ok ∧ ∃ header hdr hs ch lfsr wire,
          Memory.readBytes s.mem src Config.hdrRaw = some header
            ∧ hdrCheck header = .good hdr hs ch lfsr
            ∧ Config.hdrRaw + rawSize hdr.size.toNat ≤ n
            ∧ regionOk dst hdr.size.toNat = true
            ∧ Memory.readBytes s.mem (src + Config.hdrRaw) (rawSize hdr.size.toNat) = some wire
            ∧ s' = s.setFrameResult dst hdr hs ch (payDec wire hdr.size.toNat s.draws)) := by
  unfold decodeFrameAt at h
  obtain ⟨header, hr, h⟩ := (withBytes_ok _ _ _ _ _).1 h
  split at h
  · simp at h; simp [← h.1, ← h.2]
  · simp at h; simp [← h.1, ← h.2]
  · rename_i hdr hs ch lfsr hc
    simp only at h
    split at h
    · simp at h; simp [← h.1, ← h.2]
    · split at h
      · simp at h; simp [← h.1, ← h.2]
      · rename_i hn hd
        obtain ⟨wire, hw, h⟩ := (withBytes_ok _ _ _ _ _).1 h
        simp at h
        refine .inr ⟨h.1.symm, header, hdr, hs, ch, lfsr, wire, hr, hc, by omega, by simpa using hd, hw, h.2.symm⟩

/-- The frame decode stops only on a byte nothing has written. -/
theorem decodeFrameAt_error (src n dst : Nat) (s : State) (f : Fault) (h : decodeFrameAt src n dst s = .error f) :
    f = .uninitRead := by
  unfold decodeFrameAt at h
  obtain ⟨-, h⟩ | ⟨header, hr, h⟩ := (withBytes_error _ _ _ _ _).1 h
  · exact h
  · split at h
    · simp at h
    · simp at h
    · simp only at h
      split at h
      · simp at h
      · split at h
        · simp at h
        · obtain ⟨-, h⟩ | ⟨wire, hw, h⟩ := (withBytes_error _ _ _ _ _).1 h
          · exact h
          · simp at h

/-! ### The pipe -/

/-- What one pipe byte can do: fail a header, or finish after the header, before it, or on it (R136). -/
theorem pipeAdd_ok (byte : Byte) (s : State) (out : PipeOut) (h : pipeAdd byte s = .ok out) :
    frameRx + s.pipe.count.toNat < Config.bufSize
      ∧ ((s.status.pipeHdrKnown = true
            ∧ out = pipeFinish
                { s.pipeStore byte with pipe := { (s.pipeStore byte).pipe with remaining := s.pipe.remaining - 1#16 } }
                (s.pipe.remaining - 1#16).toNat s.pipe.frameLen.toNat)
        ∨ (s.status.pipeHdrKnown = false ∧ (s.pipe.count + 1#16).toNat < Config.hdrRaw
            ∧ out = pipeFinish (s.pipeStore byte) ((Config.hdrRaw : Int) - (s.pipe.count + 1#16).toNat) 0)
        ∨ (s.status.pipeHdrKnown = false ∧ Config.hdrRaw ≤ (s.pipe.count + 1#16).toNat
            ∧ ∃ header, Memory.readBytes (s.pipeStore byte).mem frameRx Config.hdrRaw = some header
              ∧ ((hdrCheck header = .rsBad ∧ out = pipeFail (s.pipeStore byte) .hdrRsFail)
                ∨ (hdrCheck header = .sizeBad ∧ out = pipeFail (s.pipeStore byte) .hdrSizeFail)
                ∨ ∃ hdr hs ch lfsr, hdrCheck header = .good hdr hs ch lfsr
                    ∧ out = pipeFinish
                        { s.pipeStore byte with
                          status := { (s.pipeStore byte).status with pipeHdrKnown := true }
                          pipe :=
                            { (s.pipeStore byte).pipe with
                              remaining := BitVec.ofNat 16 (rawSize hdr.size.toNat)
                              frameLen := BitVec.ofNat 16 (Config.hdrRaw + rawSize hdr.size.toNat) } }
                        (rawSize hdr.size.toNat) ((Config.hdrRaw : Int) + rawSize hdr.size.toNat)))) := by
  unfold pipeAdd at h
  split at h
  · simp at h
  · rename_i hb
    refine ⟨by omega, ?_⟩
    simp only at h
    split at h
    · rename_i hk; simp at h; exact .inl ⟨hk, h.symm⟩
    · rename_i hk
      have hk : s.status.pipeHdrKnown = false := by simpa using hk
      split at h
      · rename_i hc; simp at h; exact .inr (.inl ⟨hk, by simpa using hc, h.symm⟩)
      · rename_i hc
        have hc : Config.hdrRaw ≤ (s.pipe.count + 1#16).toNat := by simpa using hc
        split at h
        · simp at h
        · rename_i header hr
          refine .inr (.inr ⟨hk, hc, header, hr, ?_⟩)
          split at h
          · rename_i hh; simp at h; exact .inl ⟨hh, h.symm⟩
          · rename_i hh; simp at h; exact .inr (.inl ⟨hh, h.symm⟩)
          · rename_i hdr hs ch lfsr hh
            simp at h
            exact .inr (.inr ⟨hdr, hs, ch, lfsr, hh, h.symm⟩)

end Sys2Proof.Machine
end

