-- ==== Sys2Proof/Laws/Lengths.lean ====
section
/-! SUPPORT. The lengths of what the codecs produce. -/

namespace Sys2Proof.Machine

@[simp] theorem byteBits_length (b : Byte) : (byteBits b).length = 8 := rfl

@[simp] theorem bits_length (bs : List Byte) : (bits bs).length = 8 * bs.length := by
  induction bs with
  | nil => rfl
  | cons b bs ih => simp [bits, ih]; omega

theorem bytesOfBits_length (n : Nat) (l : List Bool) (h : l.length = 8 * n) : (bytesOfBits l).length = n := by
  induction n generalizing l with
  | zero =>
    have : l = [] := List.length_eq_zero_iff.1 (by simpa using h)
    subst this; rfl
  | succ n ih =>
    match l, h with
    | b7 :: b6 :: b5 :: b4 :: b3 :: b2 :: b1 :: b0 :: rest, h =>
      simp only [bytesOfBits, List.length_cons]
      rw [ih rest (by simp at h; omega)]

@[simp] theorem clockBits_length (f : BitVec 9 → Bool → Bool × BitVec 9) (s : BitVec 9) (l : List Bool) :
    (clockBits f s l).1.length = l.length := by
  induction l generalizing s with
  | nil => rfl
  | cons b l ih => simp [clockBits, ih]

@[simp] theorem scramble_length (bs : List Byte) : (scramble bs).1.length = bs.length := by
  cases bs with
  | nil => rfl
  | cons b bs =>
    simp only [scramble]
    exact bytesOfBits_length _ _ (by simp)

@[simp] theorem descramble_length (bs : List Byte) : (descramble bs).1.length = bs.length := by
  simp only [descramble]
  exact bytesOfBits_length _ _ (by simp)

theorem xorBytes_length (a b : List Byte) : (xorBytes a b).length = min a.length b.length := by
  simp [xorBytes]

@[simp] theorem rsGenerator_length (n : Nat) : (rsGenerator n).length = n + 1 := by
  induction n with
  | zero => rfl
  | succ n ih => simp [rsGenerator, polyMulRoot, xorBytes_length, ih]

theorem rsRemStep_length (g rem : List Byte) (b : Byte) (h : rem.length = g.length) :
    (rsRemStep g rem b).length = g.length := by
  cases rem with
  | nil => simpa [rsRemStep] using h
  | cons r rs => simp [rsRemStep, xorBytes_length]; simp at h; omega

@[simp] theorem rsParity_length (m : List Byte) (nsym : Nat) : (rsParity m nsym).length = nsym := by
  suffices h : ∀ rem : List Byte, rem.length = (rsGenerator nsym).tail.length →
      (m.foldl (rsRemStep (rsGenerator nsym).tail) rem).length = (rsGenerator nsym).tail.length by
    simpa [rsParity] using h (List.replicate nsym 0#8) (by simp)
  induction m with
  | nil => intro rem h; simpa using h
  | cons b m ih => intro rem h; exact ih _ (rsRemStep_length _ _ _ h)

@[simp] theorem rsEnc_length (m : List Byte) (nsym : Nat) : (rsEnc m nsym).length = m.length + nsym := by
  simp [rsEnc]

@[simp] theorem packBytes_length (h : HeaderRegs) : (packBytes h).length = 32 := rfl

@[simp] theorem drawBytes_length (k n : Nat) : (drawBytes k n).length = n := by
  induction n generalizing k with
  | zero => rfl
  | succ n ih => simp [drawBytes, ih]

/-- A word of zeros has parity zero. -/
theorem rsParity_zeros (k nsym : Nat) : rsParity (List.replicate k 0#8) nsym = List.replicate nsym 0#8 := by
  have hz : ∀ g : Byte, gfMul 0#8 g = 0#8 := by
    intro g
    simp only [gfMul, List.foldl]
    simp [gfDouble]
  suffices h : ∀ k, (List.replicate k 0#8).foldl (rsRemStep (rsGenerator nsym).tail) (List.replicate nsym 0#8)
      = List.replicate nsym 0#8 from h k
  intro k
  induction k with
  | zero => rfl
  | succ k ih =>
    rw [List.replicate_succ, List.foldl_cons]
    have hs : rsRemStep (rsGenerator nsym).tail (List.replicate nsym 0#8) 0#8 = List.replicate nsym 0#8 := by
      cases nsym with
      | zero => rfl
      | succ n =>
        rw [List.replicate_succ]
        simp only [rsRemStep, xorBytes]
        have ht : (rsGenerator (n + 1)).tail.length = n + 1 := by simp
        generalize (rsGenerator (n + 1)).tail = g at ht
        rw [show (fun g => gfMul (0#8 ^^^ 0#8) g) = fun _ => 0#8 from funext fun g => by simpa using hz g]
        rw [List.map_const', ht, ← List.replicate_succ', List.zipWith_replicate]
        simp [List.replicate_succ]
    rw [hs, ih]

/-- The zero header codeword is accepted as it stands. -/
theorem hdrDec_zeros : hdrDec (List.replicate 64 0#8) = .ok (List.replicate 32 0#8) 0 := by
  have h : rsEnc ((List.replicate 64 0#8).take 32) 32 = List.replicate 64 0#8 := by
    simp only [List.take_replicate, rsEnc, rsParity_zeros, List.replicate_append_replicate]
    rfl
  simp only [hdrDec, rsDec, Config.hdrEcc, List.length_replicate]
  rw [if_pos (by simpa using h)]
  simp

end Sys2Proof.Machine
end

