-- ==== Sys2Proof/Laws/PerInstr.lean ====
section
/-! SUPPORT. The per-instruction law: a well-formed command's word agrees with its row of the opcode map
(spec/30_encoding.md R55, R58). -/

/-- The word of a well-formed command has its row's fixed bits (match and mask), RSVD 0, its OPC and its IMM8. -/
def Sys2Proof.Laws.EncodedRow.Statement (i : Sys2Proof.Instr) : Prop :=
  i.wf = true →
    Sys2Proof.encode i &&& i.format.mask = i.matchWord ∧ Sys2Proof.rsvdField (Sys2Proof.encode i) = 0#16
      ∧ Sys2Proof.opcField (Sys2Proof.encode i) = i.opcode ∧ Sys2Proof.immField (Sys2Proof.encode i) = i.imm8

theorem Sys2Proof.Laws.EncodedRow.nop : Sys2Proof.Laws.EncodedRow.Statement .nop := by
  unfold Sys2Proof.Laws.EncodedRow.Statement
  decide

theorem Sys2Proof.Laws.EncodedRow.hdrPack : Sys2Proof.Laws.EncodedRow.Statement .hdrPack := by
  unfold Sys2Proof.Laws.EncodedRow.Statement
  decide

theorem Sys2Proof.Laws.EncodedRow.hdrUnpack : Sys2Proof.Laws.EncodedRow.Statement .hdrUnpack := by
  unfold Sys2Proof.Laws.EncodedRow.Statement
  decide

theorem Sys2Proof.Laws.EncodedRow.rawSize : Sys2Proof.Laws.EncodedRow.Statement .rawSize := by
  unfold Sys2Proof.Laws.EncodedRow.Statement
  decide

theorem Sys2Proof.Laws.EncodedRow.scramble : Sys2Proof.Laws.EncodedRow.Statement .scramble := by
  unfold Sys2Proof.Laws.EncodedRow.Statement
  decide

theorem Sys2Proof.Laws.EncodedRow.descramble : Sys2Proof.Laws.EncodedRow.Statement .descramble := by
  unfold Sys2Proof.Laws.EncodedRow.Statement
  decide

theorem Sys2Proof.Laws.EncodedRow.rsEncode : Sys2Proof.Laws.EncodedRow.Statement .rsEncode := by
  unfold Sys2Proof.Laws.EncodedRow.Statement
  decide

theorem Sys2Proof.Laws.EncodedRow.rsDecode : Sys2Proof.Laws.EncodedRow.Statement .rsDecode := by
  unfold Sys2Proof.Laws.EncodedRow.Statement
  decide

theorem Sys2Proof.Laws.EncodedRow.hdrEncode : Sys2Proof.Laws.EncodedRow.Statement .hdrEncode := by
  unfold Sys2Proof.Laws.EncodedRow.Statement
  decide

theorem Sys2Proof.Laws.EncodedRow.hdrDecode : Sys2Proof.Laws.EncodedRow.Statement .hdrDecode := by
  unfold Sys2Proof.Laws.EncodedRow.Statement
  decide

theorem Sys2Proof.Laws.EncodedRow.payEncode : Sys2Proof.Laws.EncodedRow.Statement .payEncode := by
  unfold Sys2Proof.Laws.EncodedRow.Statement
  decide

theorem Sys2Proof.Laws.EncodedRow.payDecode : Sys2Proof.Laws.EncodedRow.Statement .payDecode := by
  unfold Sys2Proof.Laws.EncodedRow.Statement
  decide

theorem Sys2Proof.Laws.EncodedRow.encodeFrame : Sys2Proof.Laws.EncodedRow.Statement .encodeFrame := by
  unfold Sys2Proof.Laws.EncodedRow.Statement
  decide

theorem Sys2Proof.Laws.EncodedRow.decodeFrame : Sys2Proof.Laws.EncodedRow.Statement .decodeFrame := by
  unfold Sys2Proof.Laws.EncodedRow.Statement
  decide

theorem Sys2Proof.Laws.EncodedRow.decodeHeader : Sys2Proof.Laws.EncodedRow.Statement .decodeHeader := by
  unfold Sys2Proof.Laws.EncodedRow.Statement
  decide

theorem Sys2Proof.Laws.EncodedRow.pipeReset : Sys2Proof.Laws.EncodedRow.Statement .pipeReset := by
  unfold Sys2Proof.Laws.EncodedRow.Statement
  decide

theorem Sys2Proof.Laws.EncodedRow.pipeAddByte (imm8 : Sys2Proof.Byte) :
    Sys2Proof.Laws.EncodedRow.Statement (.pipeAddByte imm8) := by
  unfold Sys2Proof.Laws.EncodedRow.Statement
  revert imm8
  decide

theorem Sys2Proof.Laws.EncodedRow.barkerReset : Sys2Proof.Laws.EncodedRow.Statement .barkerReset := by
  unfold Sys2Proof.Laws.EncodedRow.Statement
  decide

theorem Sys2Proof.Laws.EncodedRow.barkerStep (imm8 : Sys2Proof.Byte) :
    Sys2Proof.Laws.EncodedRow.Statement (.barkerStep imm8) := by
  unfold Sys2Proof.Laws.EncodedRow.Statement
  revert imm8
  decide
end

