-- ==== Sys2Proof/Tests/Slice0.lean ====
section
/-! SUPPORT. The model's own tests. Every expected value is a word written out from spec/30_encoding.md or a worked example of
the rule the test names (spec/95_test_vectors.md). Then, for each statement with hypotheses, a concrete case that meets them,
at the ends of their ranges. -/

set_option Elab.async false

namespace Sys2Proof.Tests
open Sys2Proof Sys2Proof.Machine

/-! ### Small states -/

/-- The reset state with the four argument registers and a buffer. -/
def withArgs (src dst len nsym : Nat) (mem : Memory) : State :=
  { State.reset with
    args := ⟨BitVec.ofNat 13 src, BitVec.ofNat 13 dst, BitVec.ofNat 16 len, BitVec.ofNat 8 nsym⟩
    mem := mem }

/-- n written zero bytes from a. -/
def zeros (a n : Nat) : Memory := (List.range n).map fun i => (a + i, 0#8)

/-- The same state with the receiver enabled. -/
def rxOn (s : State) : State := { s with rxEn := true }

/-- A TXH with the given payload size. -/
def sized (s : State) (n : Nat) : State := { s with txh := { s.txh with size := BitVec.ofNat 16 n } }

/-- Whether a command answers a next state with a property. -/
def next? (o : Host.Outcome State Fault Refusal) (p : State → Bool) : Bool :=
  match o with
  | .next t => p t
  | .fault _ => false
  | .refused _ => false

/-! ### Well-formedness (R55, R56): an ill-formed term for each check -/

theorem test_wf_rejects_wide_bit : (Instr.barkerStep 0x02#8).wf = false := by decide
theorem test_wf_accepts_bits : (Instr.barkerStep 0x00#8).wf = true ∧ (Instr.barkerStep 0x01#8).wf = true := by decide
theorem test_format_c_refuses_immediate : Format.c.immOk 0x01#8 = false ∧ Format.ci.immOk 0xFF#8 = true := by decide

/-! ### Decoding (R58): a word for every command -/

theorem test_decode_engine :
    decode 0x00000000#32 = .ok .nop ∧ decode 0x00000040#32 = .ok .encodeFrame ∧ decode 0x00000041#32 = .ok .decodeFrame
      ∧ decode 0x00000042#32 = .ok .decodeHeader := by decide
theorem test_decode_header_family :
    decode 0x00000010#32 = .ok .hdrPack ∧ decode 0x00000011#32 = .ok .hdrUnpack := by decide
theorem test_decode_interleaver :
    decode 0x00000020#32 = .ok .scramble ∧ decode 0x00000021#32 = .ok .descramble := by decide
theorem test_decode_codec :
    decode 0x00000012#32 = .ok .rawSize ∧ decode 0x00000030#32 = .ok .rsEncode ∧ decode 0x00000031#32 = .ok .rsDecode
      ∧ decode 0x00000032#32 = .ok .hdrEncode ∧ decode 0x00000033#32 = .ok .hdrDecode
      ∧ decode 0x00000034#32 = .ok .payEncode ∧ decode 0x00000035#32 = .ok .payDecode := by decide
theorem test_decode_receiver :
    decode 0x00000050#32 = .ok .pipeReset ∧ decode 0x00004051#32 = .ok (.pipeAddByte 0x40#8) := by decide
theorem test_decode_detector :
    decode 0x00000060#32 = .ok .barkerReset ∧ decode 0x00000161#32 = .ok (.barkerStep 0x01#8)
      ∧ decode 0x00000061#32 = .ok (.barkerStep 0x00#8) := by decide
theorem test_decode_rejects_by_name :
    decode 0x00010000#32 = .error .reservedNonzero ∧ decode 0x00000013#32 = .error .unknownOpcode
      ∧ decode 0x00000110#32 = .error .immediateNotAllowed ∧ decode 0x00000261#32 = .error .immediateTooWide := by decide

/-- The 19 rows of the opcode map do not overlap (R58): their opcodes are pairwise different. -/
theorem test_rows_do_not_overlap :
    [Instr.nop, .hdrPack, .hdrUnpack, .rawSize, .scramble, .descramble, .rsEncode, .rsDecode, .hdrEncode, .hdrDecode,
      .payEncode, .payDecode, .encodeFrame, .decodeFrame, .decodeHeader, .pipeReset, .pipeAddByte 0#8, .barkerReset,
      .barkerStep 0#8].Pairwise (fun i j => i.opcode ≠ j.opcode) := by decide

/-! ### One step of each command, against the rules' examples -/

/-- R107: NOP from reset gives RESULT 0x0000 and EVENT 0x001. -/
theorem test_nop : next? (step (State.reset.withFetchWord 32 0x00)) (fun t =>
    t.result == ⟨0x00#8, 0x00#8⟩ && t.event == 0x001#11 && t.pending == none) = true := by decide +kernel

/-- R56: an unlisted opcode gives E_ILLEGAL (0x1F), a fault with its opcode as origin. -/
theorem test_illegal : next? (step (State.reset.withFetchWord 32 0x99)) (fun t =>
    t.result == ⟨0x99#8, 0x1F#8⟩ && t.faultInfo == ⟨0x99#8, 0x1F#8⟩ && t.event == 0x403#11) = true := by decide +kernel

/-- The example header of spec/95_test_vectors.md. -/
def exampleHeader : HeaderRegs where
  dstA := 0x4139444B#32
  dstB := 0x4342#16
  lsrcA := 0x4143304E#32
  lsrcB := 0x4C4C#16
  srcA := 0x4143304E#32
  srcB := 0x4C4C#16
  flags := 0x681#12
  size := 7#16
  mySeq := 0x1234#16
  data01 := 0x00020001#32
  data23 := 0xFFFF0003#32

/-- The example header's 32 bytes (R102). -/
def exampleBytes : List Byte :=
  [0x4B#8, 0x44#8, 0x39#8, 0x41#8, 0x42#8, 0x43#8, 0x4E#8, 0x30#8, 0x43#8, 0x41#8, 0x4C#8, 0x4C#8, 0x4E#8, 0x30#8, 0x43#8,
    0x41#8, 0x4C#8, 0x4C#8, 0x40#8, 0xD8#8, 0x00#8, 0x07#8, 0x12#8, 0x34#8, 0x00#8, 0x01#8, 0x00#8, 0x02#8, 0x00#8, 0x03#8,
    0xFF#8, 0xFF#8]

/-- R102: HDR_PACK of the example header at 0x1800. -/
theorem test_hdr_pack : next? (exec .hdrPack { withArgs 0 0x1800 0 0 [] with txh := exampleHeader }) (fun t =>
    t.result == ⟨0x10#8, 0x00#8⟩ && Memory.readBytes t.mem 0x1800 32 == some exampleBytes) = true := by decide +kernel

/-- R97, R99: a record in which every byte differs from every other (LSRC from SRC too), FLAGS with one bit of each pair set,
HOPS 3 and HOPS_REM 2: byte 18 is 1001 1000, byte 19 is (0,1) 1 0 (1,1) 00. -/
theorem test_pack_layout :
    pack
        { dstA := 0x04030201#32, dstB := 0x0605#16, lsrcA := 0x0A090807#32, lsrcB := 0x0C0B#16, srcA := 0x100F0E0D#32
          srcB := 0x1211#16, flags := 0xB5A#12, size := 0x1516#16, mySeq := 0x1718#16, data01 := 0x1B1C191A#32
          data23 := 0x1F201D1E#32 }
      = some
        [0x01#8, 0x02#8, 0x03#8, 0x04#8, 0x05#8, 0x06#8, 0x07#8, 0x08#8, 0x09#8, 0x0A#8, 0x0B#8, 0x0C#8, 0x0D#8, 0x0E#8,
          0x0F#8, 0x10#8, 0x11#8, 0x12#8, 0x98#8, 0x6C#8, 0x15#8, 0x16#8, 0x17#8, 0x18#8, 0x19#8, 0x1A#8, 0x1B#8, 0x1C#8,
          0x1D#8, 0x1E#8, 0x1F#8, 0x20#8] := by decide

/-- R103: HDR_UNPACK of those bytes gives the example header back. -/
theorem test_hdr_unpack :
    next? (exec .hdrUnpack (withArgs 0x1800 0 0 0 (Memory.writeBytes [] 0x1800 exampleBytes))) (fun t =>
      t.result == ⟨0x11#8, 0x00#8⟩ && t.rxh == exampleHeader) = true := by decide +kernel

/-- R90: ARG_LEN 206. -/
theorem test_raw_size : next? (exec .rawSize (withArgs 0 0 206 0 [])) (fun t =>
    t.part == ⟨2#16, 0x67#16, 0x68#16, 2#16, 0#16, 0x1E#16, 0x10A#32, false, false⟩) = true := by decide +kernel

/-- R90: ARG_LEN 1024 is oversize, and still computed. -/
theorem test_raw_size_oversize : next? (exec .rawSize (withArgs 0 0 1024 0 [])) (fun t =>
    t.part.blocks == 5#16 && t.part.raw == 0x4FA#32 && t.part.flagsWord == 2#32) = true := by decide +kernel

/-- R76: `0102` gives `0E63`, LFSR_TX 0x0CC. -/
theorem test_scramble : next? (exec .scramble (withArgs 0 0x10 2 0 [(0, 0x01#8), (1, 0x02#8)])) (fun t =>
    Memory.readBytes t.mem 0x10 2 == some [0x0E#8, 0x63#8] && t.lfsrTx == 0x0CC#9) = true := by decide +kernel

/-- R77: `0E63` gives `0102`, LFSR_RX 0x180; source and destination overlap. -/
theorem test_descramble : next? (exec .descramble (withArgs 0 0 2 0 [(0, 0x0E#8), (1, 0x63#8)])) (fun t =>
    Memory.readBytes t.mem 0 2 == some [0x01#8, 0x02#8] && t.lfsrRx == 0x180#9) = true := by decide +kernel

/-- R91: `01020304` with ARG_NSYM 4. -/
theorem test_rs_encode :
    next? (exec .rsEncode (withArgs 0 0x10 4 4 (Memory.writeBytes [] 0 [0x01#8, 0x02#8, 0x03#8, 0x04#8]))) (fun t =>
      Memory.readBytes t.mem 0x10 8
        == some [0x01#8, 0x02#8, 0x03#8, 0x04#8, 0x75#8, 0xA3#8, 0xB2#8, 0x60#8]) = true := by decide +kernel

/-- R92: two errors are corrected, CORR_RS 2. -/
theorem test_rs_decode :
    next? (exec .rsDecode
        (withArgs 0 0x10 8 4 (Memory.writeBytes [] 0 [0xFE#8, 0x02#8, 0x03#8, 0x04#8, 0x75#8, 0xA3#8, 0xE7#8, 0x60#8])))
      (fun t => Memory.readBytes t.mem 0x10 4 == some [0x01#8, 0x02#8, 0x03#8, 0x04#8] && t.codec.corrRs == 2#8)
        = true := by decide +kernel

/-- R95: the 7-byte example. -/
theorem test_pay_encode :
    next? (exec .payEncode
        (withArgs 0 0x10 7 0 (Memory.writeBytes [] 0 [0x2D#8, 0x03#8, 0xF2#8, 0x9C#8, 0xCD#8, 0x9E#8, 0x0E#8])))
      (fun t => Memory.readBytes t.mem 0x10 18
        == some [0x2D#8, 0x03#8, 0xF2#8, 0x9C#8, 0xCD#8, 0x9E#8, 0x0E#8, 0x5B#8, 0xA5#8, 0x7D#8, 0xE8#8, 0xBC#8, 0x6A#8,
          0xAE#8, 0x30#8, 0xB8#8, 0x13#8, 0x95#8]) = true := by decide +kernel

/-- R96: ARG_LEN 0 gives PAYLOAD_OK 1 and PART_RAW 0. -/
theorem test_pay_decode_empty : next? (exec .payDecode (withArgs 0 0 0 0 [])) (fun t =>
    t.result == ⟨0x35#8, 0x00#8⟩ && t.status.payloadOk && t.part.raw == 0#32) = true := by decide +kernel

/-- R140: PIPE_RESET. -/
theorem test_pipe_reset :
    next? (exec .pipeReset { State.reset with pipe := ⟨3#16, 0#16, 0#16, 0x3D#32⟩ }) (fun t =>
      t.result == ⟨0x50#8, 0x00#8⟩ && t.pipe == ⟨0#16, 0#16, 0#16, 0#32⟩) = true := by decide +kernel

/-- R141: the first byte gives RESULT 0x5100 and PIPE_RESULT 0x3F. -/
theorem test_pipe_add_byte : next? (exec (.pipeAddByte 0x40#8) State.reset) (fun t =>
    t.result == ⟨0x51#8, 0x00#8⟩ && t.pipe.result == 0x3F#32 && Memory.read t.mem 0x1000 == some 0x40#8) = true := by
  decide +kernel

/-- R130, R131: from state 0, b = 1 goes to state 1; the last input finds the pattern and returns to 0; reset clears it. -/
theorem test_barker :
    next? (exec (.barkerStep 0x01#8) State.reset) (fun t => t.rx.barkerState == 1#5 && !t.status.barkerFound) = true
      ∧ next? (exec (.barkerStep 0x01#8) { State.reset with rx := { RxRegs.zero with barkerState := 12#5 } }) (fun t =>
          t.rx.barkerState == 0#5 && t.status.barkerFound) = true
      ∧ next? (exec .barkerReset { State.reset with rx := { RxRegs.zero with barkerState := 5#5 } }) (fun t =>
          t.rx.barkerState == 0#5) = true := by decide +kernel

/-- The example frame's 32 scrambled header bytes (spec/95_test_vectors.md §2.5). -/
def exampleScrambled : List Byte :=
    [0x40#8, 0xEA#8, 0xE2#8, 0x11#8, 0x5F#8, 0x1D#8, 0x11#8, 0xA2#8, 0xB9#8, 0x85#8, 0xD3#8, 0x9C#8, 0x44#8, 0x57#8,
    0x19#8, 0x58#8, 0x66#8, 0x1E#8, 0xA5#8, 0xD7#8, 0x92#8, 0xE0#8, 0x64#8, 0x42#8, 0x01#8, 0x10#8, 0x80#8, 0x46#8,
    0x47#8, 0x55#8, 0x05#8, 0x2F#8]

/-- The example frame's 32 header parity bytes. -/
def exampleParity : List Byte :=
    [0xC7#8, 0x61#8, 0x75#8, 0x5F#8, 0x64#8, 0x18#8, 0x1A#8, 0xBD#8, 0x90#8, 0x2A#8, 0x64#8, 0x87#8, 0x61#8, 0x2E#8,
    0xD0#8, 0xD6#8, 0x73#8, 0x79#8, 0x84#8, 0x00#8, 0x9A#8, 0xE3#8, 0xC9#8, 0x15#8, 0x42#8, 0xCD#8, 0x0C#8, 0xA8#8,
    0x94#8, 0xF7#8, 0x5B#8, 0x47#8]

/-- R83: the header codeword of the example frame. -/
theorem test_hdr_encode_example : rsEnc exampleScrambled 32 = exampleScrambled ++ exampleParity := by decide +kernel

/-- R110: the example frame's header descrambles to the example header, LFSR_RX 0x1E6. -/
theorem test_decode_header_example :
    unpack (descramble exampleScrambled).1 = exampleHeader ∧ (descramble exampleScrambled).2 = 0x1E6#9 := by
  decide +kernel

/-- R108: the example header and "HELLO!!" give TX_FRAME_LEN 0x52, LFSR_TX 0x007 and RESULT 0x4000. -/
theorem test_encode_frame :
    next? (exec .encodeFrame
        { withArgs 0 0x800 0 0 (Memory.writeBytes [] 0 [0x48#8, 0x45#8, 0x4C#8, 0x4C#8, 0x4F#8, 0x21#8, 0x21#8]) with
          txh := exampleHeader })
      (fun t => t.result == ⟨0x40#8, 0x00#8⟩ && t.txFrameLen == 0x52#16 && t.lfsrTx == 0x007#9) = true := by
  decide +kernel

/-- R109, R110: a buffer shorter than a header is E_LENGTH (0x10) and a fault. -/
theorem test_short_frame_is_an_error :
    next? (exec .decodeFrame (withArgs 0 0 63 0 [])) (fun t => t.result == ⟨0x41#8, 0x10#8⟩ && t.status.fault) = true
      ∧ next? (exec .decodeHeader (withArgs 0 0 63 0 [])) (fun t => t.result == ⟨0x42#8, 0x10#8⟩) = true := by
  decide +kernel

/-- R93, R94: HDR_ENCODE and HDR_DECODE refuse a region that crosses the end of the buffer. -/
theorem test_hdr_codec_range :
    next? (exec .hdrEncode (withArgs 0 8129 0 0 [])) (fun t => t.result == ⟨0x32#8, 0x11#8⟩) = true
      ∧ next? (exec .hdrDecode (withArgs 8129 0 0 0 [])) (fun t => t.result == ⟨0x33#8, 0x11#8⟩) = true := by
  decide +kernel

/-! ### The host's transactions -/

/-- R25, R155: a buffer write while a command is pending is ignored and recorded with origin 0xFF. -/
theorem test_write_while_busy :
    next? (hostStep (.bufWr 0#13 0x55#8) { State.reset with pending := some 0#32 }) (fun t =>
      t.mem == [] && t.faultInfo == ⟨0xFF#8, 0x17#8⟩ && t.event == 0x400#11) = true := by decide +kernel

/-! ### Header words used below -/

/-- The 32 scrambled bytes of a header that carries only a size. -/
def headerBytes (n : Nat) : List Byte := (scramble (packBytes { HeaderRegs.zero with size := BitVec.ofNat 16 n })).1

/-- The header codeword is accepted as it stands. -/
theorem hdrDec_headerBytes (n : Nat) : hdrDec (rsEnc (headerBytes n) 32) = .ok (headerBytes n) 0 := by
  have hl : (headerBytes n).length = 32 := by simp [headerBytes]
  have ht : (rsEnc (headerBytes n) 32).take 32 = headerBytes n := by simp [rsEnc, hl]
  simp [hdrDec, rsDec, Config.hdrEcc, hl, ht]

/-- An accepted header for L = 7. -/
def hdr7 : HeaderRegs := unpack (descramble (headerBytes 7)).1

theorem hdr7_size : hdr7.size = 7#16 := by decide +kernel

theorem hdrCheck_7 :
    hdrCheck (rsEnc (headerBytes 7) 32) = .good hdr7 (headerBytes 7) 0 (descramble (headerBytes 7)).2 := by
  rw [hdrCheck_of_ok _ _ _ (hdrDec_headerBytes _), if_neg (by decide +kernel)]
  rfl

/-- An accepted header for L = 0. -/
def hdr0 : HeaderRegs := unpack (descramble (headerBytes 0)).1

theorem hdrCheck_0 :
    hdrCheck (rsEnc (headerBytes 0) 32) = .good hdr0 (headerBytes 0) 0 (descramble (headerBytes 0)).2 := by
  rw [hdrCheck_of_ok _ _ _ (hdrDec_headerBytes _), if_neg (by decide +kernel)]
  rfl

/-- A header with the overlong length 205. -/
theorem hdrCheck_205 : hdrCheck (rsEnc (headerBytes 205) 32) = .sizeBad := by
  rw [hdrCheck_of_ok _ _ _ (hdrDec_headerBytes _), if_pos (by decide +kernel)]

/-- A header word that lies within 16 of no codeword. -/
def badWord : List Byte := List.replicate 32 1#8 ++ List.replicate 32 0#8

theorem hdrDec_bad : hdrDec badWord = .fail := by decide +kernel

theorem hdrCheck_bad : hdrCheck badWord = .rsBad := hdrCheck_of_fail _ hdrDec_bad

/-- A codeword, written at a, reads back. -/
theorem codeword_reads (a n : Nat) (m : List Byte) (h : m.length = n) :
    Memory.readBytes (Memory.writeBytes [] a m) a n = some m := by
  subst h; exact readBytes_writeBytes_same _ _ _

theorem header_length (n : Nat) : (rsEnc (headerBytes n) 32).length = 64 := by simp [headerBytes]

/-! ### Every statement with hypotheses has a case that meets them -/

/-- Two written bytes, the larger of which ends the buffer. -/
theorem witness_DecodeEncodeAgree :
    (Instr.barkerStep 0x01#8).wf = true ∧ (Instr.pipeAddByte 0xFF#8).wf = true
      ∧ decode 0x0000FF51#32 = .ok (.pipeAddByte 0xFF#8) := by decide

theorem witness_IllegalWordsComplete :
    (State.reset.withFetchWord 32 0x00010000).inputs = []
      ∧ (State.reset.withFetchWord 32 0x00010000).pending = some 0x00010000#32
      ∧ (0x00010000#32).extractLsb' 16 16 ≠ 0#16
      ∧ ({ State.reset with inputs := [.cu] }.withFetchWord 32 0x00010000).inputs = [.cu, .cu]
      ∧ (State.reset.withFetchWord 32 0x0261).pending = some 0x00000261#32
      ∧ (0x00000261#32).extractLsb' 9 7 ≠ 0#7 := by decide +kernel

theorem witness_StepRunsDecodedCommand :
    (State.reset.withFetchWord 32 0x0161).pending = some 0x00000161#32
      ∧ decode 0x00000161#32 = .ok (.barkerStep 0x01#8) ∧ (State.reset.withFetchWord 32 0x0161).inputs = []
      ∧ ({ State.reset with inputs := [.host (.bufRd 0#13)] }.withFetchWord 32 0x0161).inputs
          = [.cu, .host (.bufRd 0#13)]
      ∧ State.reset.pending = none := by decide +kernel

theorem witness_EveryCommandReports :
    (∃ t, exec .nop State.reset = .next t ∧ t.result.code = 0#8)
      ∧ ∃ t, exec (.barkerStep 0x02#8) State.reset = .next t ∧ t.result.code ≠ 0#8 :=
  ⟨⟨_, rfl, rfl⟩, ⟨_, rfl, by decide +kernel⟩⟩

theorem witness_ContractCodeWritesNothingElse :
    (∃ t, exec (.barkerStep 0x02#8) State.reset = .next t ∧ 0x10 ≤ t.result.code.toNat)
      ∧ ∃ t, exec .rsEncode State.reset = .next t ∧ 0x10 ≤ t.result.code.toNat :=
  ⟨⟨_, rfl, by decide +kernel⟩, ⟨_, rfl, by decide +kernel⟩⟩

theorem witness_HeaderCommandsConvert :
    ((withArgs 0 8160 0 0 []).txh.hopsRem.toNat ≤ (withArgs 0 8160 0 0 []).txh.hops.toNat
        ∧ (withArgs 0 8160 0 0 []).dst + 32 = 8192
        ∧ ((rxOn (withArgs 0 8160 0 0 [])).rxEn && touchesRxOwned (withArgs 0 8160 0 0 []).dst 32) = false)
      ∧ (withArgs 8160 0 0 0 (zeros 8160 32)).rxEn = false ∧ (withArgs 8160 0 0 0 (zeros 8160 32)).src + 32 = 8192
      ∧ Memory.readBytes (withArgs 8160 0 0 0 (zeros 8160 32)).mem 8160 32 = some (List.replicate 32 0#8) := by
  decide +kernel

theorem witness_RawSizeWritesPartition :
    (rxOn State.reset).rxEn = true ∧ (withArgs 0 0 0 0 []).rxEn = false ∧ (withArgs 0 0 0 0 []).len = 0
      ∧ (withArgs 0 0 65535 0 []).len = 65535 := by
  decide +kernel

theorem witness_ScramblersStoreOutput :
    let s := withArgs 8190 8190 2 0 (zeros 8190 2)
    s.rxEn = false ∧ s.src + s.len = 8192 ∧ s.dst + s.len = 8192
      ∧ (s.rxEn && touchesRxOwned s.dst s.len) = false
      ∧ Memory.readBytes s.mem s.src s.len = some [0#8, 0#8] := by decide +kernel

theorem witness_RsCommandsStore :
    (let s := withArgs 0 8186 1 5 (zeros 0 1);
      1 ≤ s.len ∧ 1 ≤ s.nsym ∧ s.len + s.nsym ≤ 255 ∧ s.src + s.len ≤ 8192 ∧ s.dst + (s.len + s.nsym) = 8192
        ∧ (s.rxEn && touchesRxOwned s.dst (s.len + s.nsym)) = false
        ∧ Memory.readBytes s.mem s.src s.len = some [0#8])
      ∧ (let s := withArgs 8189 8190 3 1 (zeros 8189 3);
        s.rxEn = false ∧ 1 ≤ s.nsym ∧ s.nsym + 1 ≤ s.len ∧ s.len ≤ 255 ∧ s.src + s.len = 8192
          ∧ s.dst + (s.len - s.nsym) = 8192 ∧ Memory.readBytes s.mem s.src s.len = some [0#8, 0#8, 0#8])
      ∧ rsDec [0#8, 0#8, 0#8] 1 = .ok [0#8, 0#8] 0 ∧ rsDec [1#8, 0#8, 0#8] 1 = .fail := by decide +kernel

theorem witness_HeaderCodecStores :
    (let s := withArgs 0 8128 0 0 (zeros 0 32);
      s.src + 32 ≤ 8192 ∧ s.dst + 64 = 8192 ∧ (s.rxEn && touchesRxOwned s.dst 64) = false
        ∧ Memory.readBytes s.mem s.src 32 = some (List.replicate 32 0#8))
      ∧ (let s := withArgs 8128 8160 0 0 (Memory.writeBytes [] 8128 badWord);
        s.rxEn = false ∧ s.src + 64 = 8192 ∧ s.dst + 32 = 8192
          ∧ Memory.readBytes s.mem s.src 64 = some badWord) := by decide +kernel

theorem witness_PayloadCommandsStore :
    let s := withArgs 0 8174 7 0 (zeros 0 18)
    s.rxEn = false ∧ s.len ≤ 1023 ∧ overlong s.len = false ∧ s.src + s.len ≤ 8192 ∧ s.dst + rawSize s.len = 8192
      ∧ (s.rxEn && touchesRxOwned s.dst (rawSize s.len)) = false
      ∧ Memory.readBytes s.mem s.src s.len = some (List.replicate 7 0#8) ∧ s.src + rawSize s.len ≤ 8192
      ∧ s.dst + s.len ≤ 8192 ∧ Memory.readBytes s.mem s.src (rawSize s.len) = some (List.replicate 18 0#8) := by
  decide +kernel

theorem witness_EncodeFrameStoresFrame :
    let s := sized (withArgs 0 8110 0 0 (zeros 0 7)) 7
    s.txh.hopsRem.toNat ≤ s.txh.hops.toNat ∧ s.txh.size.toNat ≤ 1023 ∧ overlong s.txh.size.toNat = false
      ∧ s.src + s.txh.size.toNat ≤ 8192 ∧ s.dst + (64 + rawSize s.txh.size.toNat) = 8192
      ∧ (s.rxEn && touchesRxOwned s.dst (64 + rawSize s.txh.size.toNat)) = false
      ∧ Memory.readBytes s.mem s.src s.txh.size.toNat = some (List.replicate 7 0#8) := by decide +kernel

/-- A state with a header word at 0x1800 and 18 more bytes, ARG_LEN 82, room for 7 bytes at the end of the buffer. -/
def headerAt (word : List Byte) : State :=
  withArgs 0x1800 8185 82 0 (Memory.writeBytes [] 0x1800 (word ++ List.replicate 18 0#8))

theorem headerAt_args (word : List Byte) :
    (headerAt word).rxEn = false ∧ (headerAt word).src = 0x1800 ∧ (headerAt word).len = 82
      ∧ (headerAt word).dst + 7 = 8192 := ⟨rfl, rfl, rfl, rfl⟩

/-- The header word, and what follows it, read back. -/
theorem headerAt_reads (word : List Byte) (h : word.length = 64) :
    Memory.readBytes (headerAt word).mem 0x1800 64 = some word
      ∧ Memory.readBytes (headerAt word).mem 0x1840 18 = some (List.replicate 18 0#8) := by
  have e : (headerAt word).mem
      = Memory.writeBytes (Memory.writeBytes [] 0x1800 word) 0x1840 (List.replicate 18 0#8) :=
    (writeBytes_append [] 0x1800 word _).trans (by rw [h])
  rw [e]
  constructor
  · rw [readBytes_writeBytes_outside _ _ _ _ _ (.inl (by omega))]
    exact codeword_reads _ _ _ h
  · exact readBytes_writeBytes_same _ _ (List.replicate 18 0#8)

theorem witness_DecodeFrame_and_DecodeHeader :
    (headerAt badWord).rxEn = false ∧ 64 ≤ (headerAt badWord).len ∧ (headerAt badWord).src + 82 ≤ 8192
      ∧ Memory.readBytes (headerAt badWord).mem 0x1800 64 = some badWord ∧ hdrCheck badWord = .rsBad
      ∧ Memory.readBytes (headerAt (rsEnc (headerBytes 205) 32)).mem 0x1800 64 = some (rsEnc (headerBytes 205) 32)
      ∧ hdrCheck (rsEnc (headerBytes 205) 32) = .sizeBad
      ∧ Memory.readBytes (headerAt (rsEnc (headerBytes 7) 32)).mem 0x1800 64 = some (rsEnc (headerBytes 7) 32)
      ∧ hdrCheck (rsEnc (headerBytes 7) 32) = .good hdr7 (headerBytes 7) 0 (descramble (headerBytes 7)).2
      ∧ hdr7.size = 7#16 ∧ 64 + rawSize 7 = 82
      ∧ Memory.readBytes (headerAt (rsEnc (headerBytes 7) 32)).mem 0x1840 18
          = some (List.replicate 18 0#8) :=
  ⟨rfl, by decide +kernel, by decide +kernel, (headerAt_reads _ rfl).1, hdrCheck_bad,
    (headerAt_reads _ (header_length _)).1, hdrCheck_205, (headerAt_reads _ (header_length _)).1, hdrCheck_7, hdr7_size,
    by decide +kernel, (headerAt_reads _ (header_length _)).2⟩

/-- R62, R109: the late checks' own cases: one byte short, and one byte too far. -/
theorem witness_late_checks :
    (withArgs 0x1800 8185 81 0 []).len < 64 + rawSize hdr7.size.toNat
      ∧ 8192 < (withArgs 0x1800 8186 82 0 []).dst + hdr7.size.toNat := by
  rw [hdr7_size]; decide +kernel

theorem witness_PipeResetClearsPipe : State.reset.rxEn = false ∧ (rxOn State.reset).rxEn = true := by decide

/-- A pipe that has 63 bytes of a header word in FRAME_RX. -/
def pipeAt63 (word : List Byte) : State :=
  { State.reset with
    mem := Memory.writeBytes [] 0x1000 word
    pipe := ⟨63#16, 0#16, 0#16, 1#32⟩ }

/-- Storing the byte that already stands at its place reads back the same word. -/
theorem pipeAt63_reads (word : List Byte) (b : Byte) (h : word.length = 64) (hb : word[63]? = some b) :
    Memory.readBytes (Memory.write (pipeAt63 word).mem (0x1000 + 63) b) 0x1000 64 = some word := by
  have hm : (pipeAt63 word).mem = Memory.writeBytes [] 0x1000 word := rfl
  rw [hm, readBytes_congr _ (Memory.writeBytes [] 0x1000 word)]
  · exact codeword_reads _ _ _ h
  · intro x
    rw [read_write]
    split
    · rename_i hx
      rw [hx, read_writeBytes_inside _ _ 63 word (by omega), ← hb, List.getElem?_eq_getElem]
    · rfl

/-- The pipe in the middle of a frame, with the given countdown. -/
def pipeInPayload (remaining : Nat) : State :=
  { State.reset with
    status := { State.reset.status with pipeHdrKnown := true }
    pipe := ⟨81#16, BitVec.ofNat 16 remaining, 82#16, 0#32⟩ }

theorem witness_PipeAddByteAssembles :
    (State.reset.rxEn = false ∧ State.reset.status.pipeHdrKnown = false ∧ State.reset.pipe.count.toNat < 63)
      ∧ (∀ word : List Byte, (pipeAt63 word).status.pipeHdrKnown = false ∧ (pipeAt63 word).pipe.count.toNat = 63)
      ∧ (∃ b, Memory.readBytes (Memory.write (pipeAt63 (rsEnc (headerBytes 7) 32)).mem (0x1000 + 63) b) 0x1000 64
          = some (rsEnc (headerBytes 7) 32))
      ∧ (∃ b, Memory.readBytes (Memory.write (pipeAt63 (rsEnc (headerBytes 0) 32)).mem (0x1000 + 63) b) 0x1000 64
          = some (rsEnc (headerBytes 0) 32))
      ∧ hdr7.size ≠ 0#16 ∧ hdr0.size = 0#16
      ∧ (∃ b, Memory.readBytes (Memory.write (pipeAt63 (rsEnc (headerBytes 205) 32)).mem (0x1000 + 63) b) 0x1000 64
          = some (rsEnc (headerBytes 205) 32))
      ∧ Memory.readBytes (Memory.write (pipeAt63 badWord).mem (0x1000 + 63) 0#8) 0x1000 64 = some badWord
      ∧ ((pipeInPayload 2).status.pipeHdrKnown = true ∧ (pipeInPayload 2).pipe.count.toNat < 4096
        ∧ 2 ≤ (pipeInPayload 2).pipe.remaining.toNat)
      ∧ (pipeInPayload 1).pipe.remaining = 1#16 := by
  have h : ∀ n, ∃ b, Memory.readBytes (Memory.write (pipeAt63 (rsEnc (headerBytes n) 32)).mem (0x1000 + 63) b) 0x1000 64
      = some (rsEnc (headerBytes n) 32) := by
    intro n
    refine ⟨(rsEnc (headerBytes n) 32)[63]'(by rw [header_length]; omega), pipeAt63_reads _ _ (header_length n) ?_⟩
    exact List.getElem?_eq_getElem _
  refine ⟨by decide +kernel, fun _ => ⟨rfl, rfl⟩, h 7, h 0, ?_, by decide +kernel, h 205,
    pipeAt63_reads _ _ rfl (by decide +kernel), by decide +kernel, by decide +kernel⟩
  rw [hdr7_size]; decide

theorem witness_BarkerCommandsRunMachine :
    (rxOn State.reset).rxEn = true ∧ (0x02#8 : Byte).extractLsb' 1 7 ≠ 0#7 ∧ State.reset.rxEn = false
      ∧ Config.barkerSeq[(0#5 : BitVec 5).toNat]? = some true ∧ Config.barkerSeq[(12#5 : BitVec 5).toNat]? = some true := by
  decide +kernel

theorem witness_ReceiveHazards :
    (Instr.barkerStep 0x01#8).wf = true ∧ rxSafe (.barkerStep 0x01#8) = false
      ∧ (let s := rxOn (withArgs 0 0x0400 1 1 []);
        s.rxEn = true ∧ touchesRxOwned s.dst 32 = true ∧ touchesRxOwned s.dst s.len = true
          ∧ touchesRxOwned s.dst (s.len + s.nsym) = true ∧ touchesRxOwned s.dst 64 = true
          ∧ touchesRxOwned s.dst (rawSize s.len) = true ∧ sizeRefused s.len = false
          ∧ touchesRxOwned s.dst (64 + rawSize s.txh.size.toNat) = true ∧ sizeRefused s.txh.size.toNat = false
          ∧ s.txh.hopsRem.toNat ≤ s.txh.hops.toNat ∧ s.src + 32 ≤ 8192 ∧ s.dst + 75 ≤ 8192)
      ∧ (let s := rxOn (withArgs 0 0x03FF 2 0 []);
        touchesRxOwned s.dst s.len = true ∧ touchesRxOwned s.dst 1 = false)
      ∧ (let s := rxOn (withArgs 0 0x17FF 1 0 []);
        touchesRxOwned s.dst s.len = true ∧ touchesRxOwned (s.dst + 1) s.len = false) := by decide +kernel

theorem witness_ParameterAndLateChecks :
    (let s : State := { State.reset with txh := { State.reset.txh with flags := 0x400#12 } };
      s.txh.hops.toNat < s.txh.hopsRem.toNat)
      ∧ 1023 < (sized State.reset 1024).txh.size.toNat ∧ overlong (sized State.reset 205).txh.size.toNat = true
      ∧ 1023 < (withArgs 0 0 1024 0 []).len ∧ overlong (withArgs 0 0 820 0 []).len = true
      ∧ (withArgs 0 0 0 1 []).len = 0 ∧ (withArgs 0 0 1 0 []).nsym = 0
      ∧ 255 < (withArgs 0 0 1 255 []).len + (withArgs 0 0 1 255 []).nsym
      ∧ (withArgs 0 0 4 4 []).len ≤ (withArgs 0 0 4 4 []).nsym ∧ 255 < (withArgs 0 0 256 4 []).len
      ∧ (withArgs 0 0 63 0 []).len < 64 := by decide +kernel

theorem witness_RegionsNeverCrossTheEnd :
    8192 < (withArgs 0 8161 0 0 []).dst + 32 ∧ 8192 < (withArgs 8161 0 0 0 []).src + 32
      ∧ 8192 < (withArgs 8191 0 2 0 []).src + (withArgs 8191 0 2 0 []).len
      ∧ 8192 < (withArgs 0 8191 1 1 []).dst + ((withArgs 0 8191 1 1 []).len + (withArgs 0 8191 1 1 []).nsym)
      ∧ 8192 < (withArgs 8191 0 2 1 []).src + (withArgs 8191 0 2 1 []).len
      ∧ 8192 < (withArgs 8129 0 0 0 []).src + 64 ∧ 8192 < (withArgs 0 8129 0 0 []).dst + 64
      ∧ sizeRefused (withArgs 0 8182 1 0 []).len = false
      ∧ 8192 < (withArgs 0 8182 1 0 []).dst + rawSize (withArgs 0 8182 1 0 []).len
      ∧ 8192 < (withArgs 8182 0 1 0 []).src + rawSize (withArgs 8182 0 1 0 []).len
      ∧ 8192 < (withArgs 0 8129 0 0 []).dst + (64 + rawSize (withArgs 0 8129 0 0 []).txh.size.toNat)
      ∧ 8192 < (withArgs 8129 0 64 0 []).src + (withArgs 8129 0 64 0 []).len := by decide +kernel

theorem witness_UnwrittenInputIsUninitRead :
    (State.reset.pending = none ∧ Memory.read State.reset.mem (8191#13 : BitVec 13).toNat = none)
      ∧ (∀ on ∈ [false, true],
        let s := { withArgs 8128 8063 64 1 (zeros 8128 31) with rxEn := on };
        s.src + 64 = 8192 ∧ s.dst + 65 ≤ 8192 ∧ Memory.readBytes s.mem s.src 32 = none
          ∧ Memory.readBytes s.mem s.src s.len = none ∧ s.len + s.nsym ≤ 255 ∧ s.nsym + 1 ≤ s.len
          ∧ (s.rxEn && touchesRxOwned s.dst 64) = false ∧ (s.rxEn && touchesRxOwned s.dst s.len) = false
          ∧ (s.rxEn && touchesRxOwned s.dst (s.len + s.nsym)) = false)
      ∧ (∀ on ∈ [false, true],
        let s := { sized (withArgs 0 0x1800 7 0 (zeros 0 6)) 7 with rxEn := on };
        sizeRefused s.len = false ∧ Memory.readBytes s.mem s.src s.len = none
          ∧ Memory.readBytes s.mem s.src (rawSize s.len) = none ∧ sizeRefused s.txh.size.toNat = false
          ∧ Memory.readBytes s.mem s.src s.txh.size.toNat = none ∧ s.txh.hopsRem.toNat ≤ s.txh.hops.toNat
          ∧ (s.rxEn && touchesRxOwned s.dst (rawSize s.len)) = false
          ∧ (s.rxEn && touchesRxOwned s.dst (64 + rawSize s.txh.size.toNat)) = false)
      ∧ (let s : State := { State.reset with pipe := ⟨63#16, 0#16, 0#16, 0#32⟩ };
        Memory.readBytes (Memory.write s.mem (0x1000 + 63) 0#8) 0x1000 64 = none) := by decide +kernel

/-- The frame decode's own case: an accepted header with nothing written after it. -/
theorem witness_unwritten_payload :
    Memory.readBytes (Memory.writeBytes [] 0x1800 (rsEnc (headerBytes 7) 32)) 0x1800 64
        = some (rsEnc (headerBytes 7) 32)
      ∧ Memory.readBytes (Memory.writeBytes [] 0x1800 (rsEnc (headerBytes 7) 32)) (0x1800 + 64) (rawSize 7) = none := by
  refine ⟨codeword_reads _ _ _ (header_length _), ?_⟩
  have h : Memory.read (Memory.writeBytes [] 0x1800 (rsEnc (headerBytes 7) 32)) (0x1800 + 64) = none :=
    (read_writeBytes_outside [] 0x1800 (0x1800 + 64) _ (by rw [header_length]; omega)).trans rfl
  rw [show rawSize 7 = 17 + 1 by decide +kernel, Memory.readBytes, h]

theorem witness_command_frames :
    (∃ t, exec .nop State.reset = .next t) ∧ outsideRegion 0 (storeRegion .nop State.reset)
      ∧ (∃ t, exec .hdrPack (withArgs 0 8160 0 0 []) = .next t)
      ∧ outsideRegion 8159 (storeRegion .hdrPack (withArgs 0 8160 0 0 [])) :=
  ⟨⟨_, rfl⟩, .inr (Nat.le_refl 0), ⟨_, rfl⟩, .inl (by decide +kernel)⟩

theorem witness_ScramblerClosedForm : 0 < 8 * [0x01#8].length ∧ 7 < 8 * [0x01#8].length := by decide

theorem witness_DescrambleUndoesScramble : 9 ≤ 9 ∧ 9 < (List.replicate 10 true).length := by decide

theorem witness_ScramblerCausalityAndErrorSpread :
    (0 < (List.replicate 10 true).length ∧ 9 < (List.replicate 10 true).length) ∧ 9 = 0 + 9 := by decide

theorem witness_codec_lengths :
    (1 ≤ 1 ∧ 1 + 1 ≤ [0#8, 0#8].length ∧ [0#8, 0#8].length ≤ 255) ∧ 254 + 1 ≤ (List.replicate 255 0#8).length
      ∧ ([0#8] : List Byte).length = [0#8, 0#8].length - 1 ∧ Machine.dist [0#8, 0#8] (rsEnc [0#8] 1) ≤ 1 / 2
      ∧ rsDec [0#8, 0#8] 1 = .ok [0#8] 0 := by decide +kernel

/-- A word of three bytes with one parity symbol, within 0 of no codeword: the decoder's FAIL has a case. -/
theorem witness_decoder_fail : ∀ m : List Byte, m.length = 3 - 1 → 1 / 2 < Machine.dist [1#8, 0#8, 0#8] (rsEnc m 1) := by
  intro m hm
  match m, hm with
  | [a, b], _ =>
    by_cases ha : a = 1#8
    · by_cases hb : b = 0#8
      · subst ha; subst hb; decide +kernel
      · have : (0#8 : Byte) ≠ b := fun h => hb h.symm
        simp [rsEnc, Machine.dist, this]
    · have : (1#8 : Byte) ≠ a := fun h => ha h.symm
      simp [rsEnc, Machine.dist, this]

/-- 18 bytes that lie within 5 of no codeword with 11 parity bytes. -/
def lostBlock : List Byte := List.replicate 9 1#8 ++ List.replicate 9 0#8

theorem witness_PayloadBlocks :
    (7 ≤ 1023 ∧ overlong 7 = false ∧ lostBlock.length = rawSize 7 ∧ 0 < (blockLens 7).length
        ∧ (blockLens 1023).length = 5)
      ∧ rsDec (wireBlock 7 0 lostBlock) (partition 7).ecc = .fail
      ∧ rsDec (wireBlock 7 0 (List.replicate 18 0#8)) (partition 7).ecc = .ok (List.replicate 7 0#8) 0 := by
  decide +kernel

/-- A header carrying 7 bytes of payload, and its frame. -/
def sentHeader : HeaderRegs := { HeaderRegs.zero with size := 7#16 }
/-- Its payload. -/
def sentPayload : List Byte := [1#8, 2#8, 3#8, 4#8, 5#8, 6#8, 7#8]
/-- The frame. -/
def sentFrame : List Byte := frameOf (frameStream (packBytes sentHeader) sentPayload).1

theorem payEnc_length_7 (p : List Byte) (h : p.length = 7) : (payEnc p).length = 18 := by
  have hp : partition 7 = ⟨1, 7, 8, 1, 0, 11⟩ := by decide +kernel
  have hb : blockLens 7 = [7] := by decide +kernel
  simp [payEnc, h, hp, hb, encBlocks]

theorem sentFrame_length : sentFrame.length = 82 := by
  have h1 : (frameStream (packBytes sentHeader) sentPayload).1.length = 39 := by simp [frameStream, sentPayload]
  have h2 : (payEnc ((frameStream (packBytes sentHeader) sentPayload).1.drop 32)).length = 18 :=
    payEnc_length_7 _ (by simp [h1])
  simp [sentFrame, frameOf, hdrEnc, Config.hdrLen, Config.hdrEcc, h1, h2]

/-- The frame at the end of the buffer. -/
def frameAtEnd : State := withArgs 8110 8185 82 0 (Memory.writeBytes [] 8110 sentFrame)

theorem withArgs_mem (src dst len nsym : Nat) (m : Memory) : (withArgs src dst len nsym m).mem = m := rfl

theorem frameAtEnd_mem : frameAtEnd.mem = Memory.writeBytes [] 8110 sentFrame := by
  rw [frameAtEnd, withArgs_mem]

/-- Its arguments do not depend on the bytes. -/
theorem frameAtEnd_args (m : Memory) :
    (withArgs 8110 8185 82 0 m).rxEn = false ∧ (withArgs 8110 8185 82 0 m).src = 8110
      ∧ (withArgs 8110 8185 82 0 m).dst = 8185 ∧ (withArgs 8110 8185 82 0 m).len = 82 := by
  simp [withArgs, State.reset, State.src, State.dst, State.len]

theorem sent_lengths :
    sentHeader.size.toNat = 7 ∧ sentPayload.length = 7 ∧ overlong 7 = false ∧ 64 + rawSize 7 = 82 := by
  decide +kernel

/-- R112's case: only the 64 header bytes are written, at the end of the buffer. -/
theorem witness_header_of_frame :
    (withArgs 8128 0 64 0 (Memory.writeBytes [] 8128 (sentFrame.take 64))).len = 64
      ∧ (withArgs 8128 0 64 0 (Memory.writeBytes [] 8128 (sentFrame.take 64))).src + 64 = 8192
      ∧ Memory.readBytes (Memory.writeBytes [] 8128 (sentFrame.take 64)) 8128 64 = some (sentFrame.take 64) := by
  refine ⟨?_, ?_, codeword_reads _ _ _ (by simp [sentFrame_length])⟩
    <;> simp [withArgs, State.reset, State.src, State.len]

theorem witness_FrameRoundTrip :
    frameAtEnd.rxEn = false ∧ frameAtEnd.len = 82 ∧ frameAtEnd.src + 82 = 8192 ∧ frameAtEnd.dst + 7 = 8192
      ∧ Memory.readBytes frameAtEnd.mem 8110 82 = some sentFrame := by
  rw [frameAtEnd_mem]
  obtain ⟨h1, h2, h3, h4⟩ := frameAtEnd_args (Memory.writeBytes [] 8110 sentFrame)
  exact ⟨h1, h4, congrArg (· + 82) h2, congrArg (· + 7) h3, codeword_reads _ _ _ sentFrame_length⟩

/-- The same frame with the first 16 header symbols and the first 5 payload symbols changed. -/
def hitFrame : List Byte :=
  (sentFrame.take 16).map (fun b => b ^^^ 1#8) ++ (sentFrame.drop 16).take 48
    ++ (((sentFrame.drop 64).take 5).map (fun b => b ^^^ 1#8) ++ sentFrame.drop 69)

theorem dist_self (a : List Byte) : Machine.dist a a = 0 := by
  induction a with
  | nil => rfl
  | cons x a ih => simp [Machine.dist, ih]

theorem dist_append (a b c d : List Byte) (h : a.length = b.length) : Machine.dist (a ++ c) (b ++ d) = Machine.dist a b + Machine.dist c d := by
  induction a generalizing b with
  | nil => cases b with
    | nil => simp [Machine.dist]
    | cons y b => simp at h
  | cons x a ih => cases b with
    | nil => simp at h
    | cons y b =>
      simp only [List.cons_append, Machine.dist]
      rw [ih b (by simpa using h)]
      omega

theorem dist_hit (a : List Byte) : Machine.dist (a.map (fun b => b ^^^ 1#8)) a = a.length := by
  induction a with
  | nil => rfl
  | cons x a ih =>
    have : x ^^^ 1#8 ≠ x := by revert x; decide
    simp [Machine.dist, ih, this]; omega

theorem witness_FrameSurvivesSymbolErrors :
    Machine.dist (hitFrame.take 64) (sentFrame.take 64) = 16
      ∧ (∀ i < (blockLens sentPayload.length).length,
          Machine.dist (wireBlock sentPayload.length i (hitFrame.drop 64)) (wireBlock sentPayload.length i (sentFrame.drop 64))
            ≤ (partition sentPayload.length).ecc / 2)
      ∧ hitFrame.length = 82
      ∧ Memory.readBytes (Memory.writeBytes [] 8110 hitFrame) 8110 82 = some hitFrame := by
  have hl := sentFrame_length
  have hh : hitFrame.length = 82 := by simp [hitFrame, hl]
  have t1 : hitFrame.take 64 = (sentFrame.take 16).map (fun b => b ^^^ 1#8) ++ (sentFrame.drop 16).take 48 := by
    rw [hitFrame, List.take_left' (by simp [hl])]
  have t2 : hitFrame.drop 64 = ((sentFrame.drop 64).take 5).map (fun b => b ^^^ 1#8) ++ sentFrame.drop 69 := by
    rw [hitFrame, List.drop_left' (by simp [hl])]
  have s1 : sentFrame.take 64 = sentFrame.take 16 ++ (sentFrame.drop 16).take 48 := by
    rw [show 64 = 16 + 48 by rfl, List.take_add]
  have s2 : sentFrame.drop 64 = (sentFrame.drop 64).take 5 ++ sentFrame.drop 69 := by
    conv => lhs; rw [← List.take_append_drop 5 (sentFrame.drop 64)]
    simp
  refine ⟨?_, ?_, hh, codeword_reads _ _ _ hh⟩
  · rw [t1, s1, dist_append _ _ _ _ (by simp), dist_self, dist_hit]; simp [hl]
  · intro i hi
    have hb : (blockLens sentPayload.length).length = 1 := by decide +kernel
    have hi0 : i = 0 := by omega
    subst hi0
    have w : ∀ l : List Byte, l.length = 18 → wireBlock sentPayload.length 0 l = l := by
      intro l hl
      have h0 : wireStart sentPayload.length 0 = 0 := by decide +kernel
      have h1 : (blockLens sentPayload.length).getD 0 0 + (partition sentPayload.length).ecc = 18 := by decide +kernel
      rw [wireBlock, h0, h1, List.drop_zero, ← hl, List.take_length]
    rw [w _ (by simp [hh]), w _ (by simp [hl]), t2]
    conv => lhs; arg 2; rw [s2]
    rw [dist_append _ _ _ _ (by simp), dist_self, dist_hit]
    have he : (partition sentPayload.length).ecc / 2 = 5 := by decide +kernel
    rw [he]; simp [hl]

theorem witness_GaloisFieldLaws : (1#8 : Byte) ≠ 0#8 ∧ (255#8 : Byte) ≠ 0#8 ∧ 254 < 255 := by decide

theorem witness_PartitionBounds :
    (1 ≤ 1 ∧ 1 ≤ 1023) ∧ 1022 < 1023 ∧ 1023 ≤ 1023 ∧ 0 < (partition 1).blockCnt ∧ 4 < (partition 1023).blockCnt := by decide

/-- R101: a record that packs and one that does not, and 32 bytes whose hop pairs are in order and out of order. -/
theorem witness_HeaderPackUnpackInverse :
    exampleBytes.length = 32 ∧ pack exampleHeader = some exampleBytes ∧ (List.replicate 32 0xFF#8).length = 32
      ∧ pack { HeaderRegs.zero with flags := 0x400#12 } = none
      ∧ pack (unpack ((List.replicate 32 0#8).set 19 0x84#8)) = none
      ∧ pack (unpack ((List.replicate 32 0#8).set 19 0x44#8)) = some ((List.replicate 32 0#8).set 19 0x44#8) := by decide

/-! ### Windows -/

/-- Signal processing of one sample: coherent when it is not 0, filtered values equal to the sample. -/
def toy : Dsp where
  width := 1
  coh w := if w.headD 0 = 0 then 0 else 65535
  bpf w _ := (w.headD 0 : Int)
  mf w _ := (w.headD 0 : Int)
  gainQ v := BitVec.ofInt 32 v.floor

/-- The enabled receiver in a state of R118, with a phase reference where there is one. -/
def inPhase (x : RxState) : State :=
  { State.reset with
    rxEn := true
    rx := { RxRegs.zero with state := x }
    prev := if x.needsPrev then some [1] else none }

/-- The same with the two budgets. -/
def withBudgets (s : State) (maxOffset barkerMax : Nat) : State :=
  { s with cfg := { s.cfg with maxOffset := BitVec.ofNat 32 maxOffset, barkerMax := BitVec.ofNat 32 barkerMax } }

/-- The same with a state of the Moore machine. -/
def atBarker (s : State) (k : Nat) : State := { s with rx := { s.rx with barkerState := BitVec.ofNat 5 k } }

theorem inPhase_inv (x : RxState) : Inv (inPhase x) := by cases x <;> decide +kernel

theorem witness_DetectorSteps :
    ((inPhase .idle).rxEn = true ∧ (inPhase .idle).cfg.cohThresh.toNat < (toy.coh [1]).val
        ∧ max (inPhase .idle).cfg.carrierThreshold.toNat 1 ≤ (satSucc (inPhase .idle).rx.cohCount).toNat)
      ∧ ((toy.coh [0]).val ≤ (inPhase .idle).cfg.cohThresh.toNat
        ∧ (0#16 : BitVec 16).toNat < max (inPhase .idle).cfg.carrierThreshold.toNat 1
        ∧ (inPhase .idle).cfg.maxOffset.toNat ≤ (satSucc (inPhase .idle).rx.winCount).toNat
        ∧ (satSucc (inPhase .idle).rx.winCount).toNat < (withBudgets (inPhase .idle) 2 0).cfg.maxOffset.toNat)
      ∧ (inPhase .carrierLocked).rx.state = .carrierLocked
      ∧ ((inPhase .barkerMatching).prev = some [1]
        ∧ (Machine.barkerStep (atBarker (inPhase .barkerMatching) 12).rx.barkerState (flip toy [1] [-1])).2 = true
        ∧ (Machine.barkerStep (inPhase .barkerMatching).rx.barkerState (flip toy [1] [1])).2 = false
        ∧ (inPhase .barkerMatching).cfg.barkerMax.toNat ≤ (satSucc (inPhase .barkerMatching).rx.barkerCount).toNat
        ∧ (satSucc (inPhase .barkerMatching).rx.barkerCount).toNat
          < (withBudgets (inPhase .barkerMatching) 0 2).cfg.barkerMax.toNat) := by
  decide +kernel

theorem witness_BarkerMatcher :
    (12 < 13 ∧ [true].length = 13 - 12 ∧ false ≠ Config.barkerSeq.getD 12 false)
      ∧ [false, true, true, true, true, true, true, true, true, true, true, true, true].length = 13 - 0 := by decide

theorem witness_SeparatorAndDataBits :
    ({ (inPhase .synchronized).rx with sepRemaining := 1#16 }.sepRemaining ≠ 0#16)
      ∧ (inPhase .synchronized).rx.sepRemaining = 0#16 ∧ (inPhase .synchronized).prev = some [1]
      ∧ (inPhase .rxData).rxEn = true ∧ (inPhase .rxData).prev = some [1] ∧ (inPhase .rxData).rx.bitCount ≠ 7#3 := by
  decide

theorem witness_DisabledAndSquelchedWindows : State.reset.rxEn = false ∧ (inPhase .rxData).rxEn = true := by decide

theorem witness_NoCarrierExactlyAtBudget :
    ((inPhase .idle).rx.winCount = 0#32 ∧ [[(0 : Int)]].length = max (inPhase .idle).cfg.maxOffset.toNat 1)
      ∧ [[(0 : Int)], []].length = max (withBudgets (inPhase .idle) 2 0).cfg.maxOffset.toNat 1
      ∧ ∀ w ∈ [[(0 : Int)], []], (toy.coh w).val ≤ (inPhase .idle).cfg.cohThresh.toNat := by decide +kernel

theorem witness_ReceiverNeverStuck :
    (∀ x : RxState, Inv (inPhase x) ∧ (inPhase x).rxEn = true ∧ (inPhase x).rx.state = x)
      ∧ ([[(0 : Int)]].length = max (inPhase .idle).cfg.maxOffset.toNat 1
        ∧ [[(0 : Int)]].length = max (inPhase .barkerMatching).cfg.barkerMax.toNat 1
        ∧ [[(0 : Int)]].length = (inPhase .synchronized).rx.sepRemaining.toNat + 1)
      ∧ (List.replicate (8 * 1337) [(0 : Int)]).length = 8 * 1337 :=
  ⟨fun x => ⟨inPhase_inv x, rfl, rfl⟩, by decide +kernel, List.length_replicate⟩

/-- Writing the byte that already stands at its place changes no read. -/
theorem readBytes_write_same (m : Memory) (a n p : Nat) (b : Byte) (h : Memory.read m a = some b) :
    Memory.readBytes (Memory.write m a b) p n = Memory.readBytes m p n := by
  apply readBytes_congr
  intro x
  rw [read_write]
  split
  · rename_i hx; rw [hx, h]
  · rfl

/-- The receiver before the last bit of a byte, with the given SHIFT, pipe and buffer. -/
def beforeLastBit (known : Bool) (shift : Byte) (pipe : PipeRegs) (mem : Memory) : State :=
  { inPhase .rxData with
    rx := { RxRegs.zero with state := .rxData, bitCount := 7#3, shift := shift }
    status := { State.reset.status with pipeHdrKnown := known }
    pipe := pipe
    mem := mem }

theorem toy_flips : flip toy [1] [1] = false ∧ flip toy [1] [-1] = true := by decide +kernel

/-- With SHIFT 0, the window [1] against the reference [1] completes the byte 0. -/
theorem beforeLastBit_byte :
    RxRegs.zero.shift.extractLsb' 0 7 ++ BitVec.ofBool (flip toy [1] [1]) = (0#8 : Byte) := by decide +kernel

/-- Some SHIFT and window complete any byte. -/
theorem byte_completed (b : Byte) :
    ∃ (shift : Byte) (w : Window), shift.extractLsb' 0 7 ++ BitVec.ofBool (flip toy [1] w) = b := by
  refine ⟨b >>> 1, if b.getLsbD 0 then [-1] else [1], ?_⟩
  have h : ∀ c : Byte, (c >>> 1).extractLsb' 0 7 ++ BitVec.ofBool (c.getLsbD 0) = c := by decide +kernel
  conv => rhs; rw [← h b]
  cases hb : b.getLsbD 0
  · rw [if_neg (by simp), toy_flips.1]
  · rw [if_pos rfl, toy_flips.2]

/-- A header word for 7 bytes with 18 zero bytes after it. -/
def zeroFrame : List Byte := rsEnc (headerBytes 7) 32 ++ List.replicate 18 0#8

theorem zeroFrame_length : zeroFrame.length = 82 := by
  rw [zeroFrame, List.length_append, header_length, List.length_replicate]

theorem zeroFrame_header : zeroFrame.take 64 = rsEnc (headerBytes 7) 32 := by
  rw [zeroFrame, List.take_left' (header_length 7)]

theorem read_last (a : Nat) (word : List Byte) (h : word.length = 64) :
    Memory.read (Memory.writeBytes [] a (word ++ List.replicate 18 0#8)) (a + 81) = some 0#8 := by
  rw [read_writeBytes_inside [] a 81 _ (by simp [h]), List.getElem_append_right (by omega), List.getElem_replicate]

theorem zeroFrame_last : Memory.read (Memory.writeBytes [] 0x1000 zeroFrame) (0x1000 + 81) = some 0#8 := by
  rw [zeroFrame]; exact read_last 0x1000 _ (header_length 7)

/-- Its 64 header bytes and its 18 payload bytes read back from FRAME_RX. -/
theorem zeroFrame_reads :
    Memory.readBytes (Memory.write (Memory.writeBytes [] 0x1000 zeroFrame) (0x1000 + 81) 0#8) 0x1000 64
        = some (rsEnc (headerBytes 7) 32)
      ∧ Memory.readBytes (Memory.write (Memory.writeBytes [] 0x1000 zeroFrame) (0x1000 + 81) 0#8) 0x1040 18
          = some (List.replicate 18 0#8) := by
  rw [readBytes_write_same _ _ _ _ _ zeroFrame_last, readBytes_write_same _ _ _ _ _ zeroFrame_last]
  have e : Memory.writeBytes [] 0x1000 zeroFrame
      = Memory.writeBytes (Memory.writeBytes [] 0x1000 (rsEnc (headerBytes 7) 32)) 0x1040 (List.replicate 18 0#8) :=
    (writeBytes_append [] 0x1000 _ _).trans (by rw [header_length])
  rw [e]
  constructor
  · rw [readBytes_writeBytes_outside _ _ _ _ _ (.inl (by omega))]
    exact codeword_reads _ _ _ (header_length 7)
  · exact readBytes_writeBytes_same _ _ (List.replicate 18 0#8)

theorem badWord_last : Memory.read (Memory.writeBytes [] 0x1000 badWord) (0x1000 + 63) = some 0#8 := by
  rw [read_writeBytes_inside _ _ 63 _ (by decide)]
  decide

theorem witness_ReceivedFrameIsDelivered :
    (∀ known shift pipe mem, (beforeLastBit known shift pipe mem).rxEn = true
        ∧ (beforeLastBit known shift pipe mem).rx.state = .rxData
        ∧ (beforeLastBit known shift pipe mem).prev = some [1] ∧ (beforeLastBit known shift pipe mem).rx.bitCount = 7#3
        ∧ (beforeLastBit known shift pipe mem).status.pipeHdrKnown = known
        ∧ (beforeLastBit known shift pipe mem).pipe = pipe ∧ (beforeLastBit known shift pipe mem).mem = mem
        ∧ (beforeLastBit known shift pipe mem).rx.shift = shift)
      ∧ ((0#8 : Byte).extractLsb' 0 7 ++ BitVec.ofBool (flip toy [1] [1]) = (0#8 : Byte) ∧ (62#16 : BitVec 16).toNat < 63
        ∧ (4095#16 : BitVec 16).toNat < 4096 ∧ 2 ≤ (2#16 : BitVec 16).toNat)
      ∧ (∀ n, ∃ (shift : Byte) (w : Window),
        Memory.readBytes
            (Memory.write (pipeAt63 (rsEnc (headerBytes n) 32)).mem (0x1000 + 63)
              (shift.extractLsb' 0 7 ++ BitVec.ofBool (flip toy [1] w)))
            0x1000 64
          = some (rsEnc (headerBytes n) 32))
      ∧ (hdrCheck (rsEnc (headerBytes 0) 32) = .good hdr0 (headerBytes 0) 0 (descramble (headerBytes 0)).2
        ∧ hdr0.size = 0#16 ∧ hdr7.size ≠ 0#16)
      ∧ (Memory.readBytes (Memory.write (Memory.writeBytes [] 0x1000 badWord) (0x1000 + 63) 0#8) 0x1000 64 = some badWord
        ∧ hdrCheck badWord = .rsBad)
      ∧ (Memory.readBytes (Memory.write (Memory.writeBytes [] 0x1000 zeroFrame) (0x1000 + 81) 0#8) 0x1000 64
          = some (rsEnc (headerBytes 7) 32)
        ∧ hdrCheck (rsEnc (headerBytes 7) 32) = .good hdr7 (headerBytes 7) 0 (descramble (headerBytes 7)).2
        ∧ hdr7.size = 7#16 ∧ 64 + rawSize 7 = 82
        ∧ Memory.readBytes (Memory.write (Memory.writeBytes [] 0x1000 zeroFrame) (0x1000 + 81) 0#8) 0x1040 18
          = some (List.replicate 18 0#8)) := by
  refine ⟨fun _ _ _ _ => ⟨rfl, rfl, rfl, rfl, rfl, rfl, rfl, rfl⟩, ⟨beforeLastBit_byte, by decide, by decide, by decide⟩,
    ?_, ⟨hdrCheck_0, by decide +kernel, by rw [hdr7_size]; decide⟩, ⟨?_, hdrCheck_bad⟩,
    zeroFrame_reads.1, hdrCheck_7, hdr7_size, sent_lengths.2.2.2, zeroFrame_reads.2⟩
  · intro n
    obtain ⟨shift, w, hb⟩ := byte_completed ((rsEnc (headerBytes n) 32)[63]'(by rw [header_length]; omega))
    exact ⟨shift, w, by rw [hb]; exact pipeAt63_reads _ _ (header_length n) (List.getElem?_eq_getElem _)⟩
  rw [readBytes_write_same _ _ _ _ _ badWord_last]
  exact codeword_reads _ _ _ rfl

theorem witness_PipeAssemblesWholeFrames :
    (State.reset.status.pipeHdrKnown = false ∧ State.reset.pipe.count = 0#16 ∧ State.reset.pipe.remaining = 0#16
        ∧ State.reset.pipe.frameLen = 0#16)
      ∧ (hdrCheck (zeroFrame.take 64) = .good hdr7 (headerBytes 7) 0 (descramble (headerBytes 7)).2
        ∧ hdr7.size.toNat = 7 ∧ zeroFrame.length = 64 + rawSize 7)
      ∧ (hdrCheck ((rsEnc (headerBytes 0) 32).take 64) = .good hdr0 (headerBytes 0) 0 (descramble (headerBytes 0)).2
        ∧ hdr0.size.toNat = 0 ∧ (rsEnc (headerBytes 0) 32).length = 64 + rawSize 0)
      ∧ (badWord.length = 64 ∧ hdrCheck (badWord.take 64) = .rsBad) := by
  have h0 : (rsEnc (headerBytes 0) 32).take 64 = rsEnc (headerBytes 0) 32 := by
    rw [List.take_of_length_le (Nat.le_of_eq (header_length 0))]
  have hb : badWord.take 64 = badWord := List.take_of_length_le (by decide)
  rw [zeroFrame_header, h0, hb, hdr7_size, zeroFrame_length, sent_lengths.2.2.2, header_length]
  exact ⟨by decide, ⟨hdrCheck_7, rfl, rfl⟩, ⟨hdrCheck_0, by decide +kernel, by decide +kernel⟩, rfl, hdrCheck_bad⟩

/-- Windows whose bits, each against the one before, are the given ones: a 1 flips the sign. -/
def windowsFor : Int → List Bool → List Window
  | _, [] => []
  | p, b :: bs => [if b then -p else p] :: windowsFor (if b then -p else p) bs

theorem flipsOf_windowsFor (bs : List Bool) (p : Int) (h : p = 1 ∨ p = -1) : flipsOf toy [p] (windowsFor p bs) = bs := by
  induction bs generalizing p with
  | nil => rfl
  | cons b bs ih =>
    have hb : flip toy [p] [if b then -p else p] = b := by
      rcases h with rfl | rfl <;> cases b <;> decide +kernel
    rw [windowsFor, flipsOf, hb, ih]
    cases b <;> simp <;> omega

/-- The searching receiver with its thresholds, budgets and counts. -/
def searchingWith (threshold maxOffset barkerMax sepSymbols cohCount winCount : Nat) : State :=
  { inPhase .coherenceAccumulating with
    cfg :=
      { CfgRegs.atReset with
        carrierThreshold := BitVec.ofNat 16 threshold
        maxOffset := BitVec.ofNat 32 maxOffset
        barkerMax := BitVec.ofNat 32 barkerMax
        sepSymbols := BitVec.ofNat 16 sepSymbols }
    rx :=
      { RxRegs.zero with
        state := .coherenceAccumulating
        cohCount := BitVec.ofNat 16 cohCount
        winCount := BitVec.ofNat 32 winCount } }

theorem witness_SentFrameIsReceived :
    ((inPhase .rxData).rxEn = true ∧ (inPhase .rxData).prev = some [1] ∧ (inPhase .rxData).rx.bitCount = 0#3
        ∧ (inPhase .rxData).status.pipeHdrKnown = false ∧ (inPhase .rxData).pipe.count = 0#16
        ∧ (inPhase .rxData).pipe.remaining = 0#16 ∧ (inPhase .rxData).pipe.frameLen = 0#16)
      ∧ (inPhase .synchronized).rx.sepRemaining = 0#16
      ∧ (sentHeader.size.toNat = sentPayload.length ∧ sentPayload.length ≤ 1023
        ∧ overlong sentPayload.length = false)
      ∧ ∀ start : List Bool, flipsOf toy [1] (windowsFor 1 (start ++ bits sentFrame)) = start ++ bits sentFrame :=
  ⟨by decide, rfl, by decide +kernel, fun _ => flipsOf_windowsFor _ _ (.inl rfl)⟩

/-- R129's own cases: a threshold of 0 with no budget and no separator, and budgets that are just enough. -/
theorem witness_frame_from_the_search :
    (let s := searchingWith 0 0 13 0 0 5;
      s.rxEn = true ∧ s.rx.bitCount = 0#3 ∧ s.status.pipeHdrKnown = false ∧ s.pipe = PipeRegs.zero
        ∧ s.rx.cohCount.toNat + [[(1 : Int)]].length = max s.cfg.carrierThreshold.toNat 1
        ∧ s.cfg.cohThresh.toNat < (toy.coh [1]).val ∧ 0 + 13 ≤ s.cfg.barkerMax.toNat ∧ s.cfg.sepSymbols.toNat = 0)
      ∧ (let s := searchingWith 3 10 20 4 1 8;
        s.rx.cohCount.toNat + [[(1 : Int)], [1]].length = max s.cfg.carrierThreshold.toNat 1
          ∧ s.rx.winCount.toNat + [[(1 : Int)], [1]].length ≤ s.cfg.maxOffset.toNat ∧ 7 + 13 ≤ s.cfg.barkerMax.toNat
          ∧ [true, false, true, false].length = s.cfg.sepSymbols.toNat) := by decide +kernel

theorem witness_WindowStepFrame :
    next? (rxStep toy [0] false (inPhase .idle)) (fun t => t.rxEn) = true
      ∧ next? (rxStep toy [0] true State.reset) (fun t => !t.rxEn) = true
      ∧ outsideRegion 0x07FF (0x1000, 0x0800) ∧ outsideRegion 0x0800 (0x0400, 0x0400) ∧ outsideRegion 0x03FF (0x0400, 0x0400)
      ∧ outsideRegion 0x1800 (0x1000, 0x0800) :=
  ⟨by decide +kernel, by decide +kernel, .inl (by omega), .inr (by omega), .inl (by omega), .inr (by omega)⟩

theorem witness_CommandsDoNotDisturbReceiver :
    (rxOn State.reset).rxEn = true ∧ ∃ t, exec .nop (rxOn State.reset) = .next t := ⟨rfl, _, rfl⟩

/-! ### The host's statements -/

/-- The reset state with a pending NOP. -/
def busyState : State := { State.reset with pending := some 0#32 }

theorem witness_CtrlWrites :
    (2#32 : Word).getLsbD 1 = true ∧ (1#32 : Word).getLsbD 1 = false ∧ State.reset.pending = none
      ∧ (1#32 : Word).getLsbD 0 ≠ State.reset.rxEn ∧ (0#32 : Word).getLsbD 0 = State.reset.rxEn := by decide

theorem witness_CmdIssueAndWritesWhileBusy :
    State.reset.pending = none ∧ busyState.pending ≠ none
      ∧ (0x04#8 ∉ [0x02#8, 0x03#8, 0x06#8, 0x07#8, 0x09#8, 0x0A#8, 0x0B#8, 0x0C#8]
        ∧ ¬(0x10#8 ≤ 0x1B#8 ∧ 0x1B#8 ≤ 0x1A#8) ∧ ¬(0x50#8 ≤ 0x4F#8 ∧ 0x4F#8 ≤ 0x55#8)
        ∧ ¬(0x50#8 ≤ 0x56#8 ∧ 0x56#8 ≤ 0x55#8)) := by decide

/-- The implemented indices (R18). -/
def implementedIndices : List (BitVec 8) :=
  (List.range' 0x00 14 ++ List.range' 0x10 11 ++ List.range' 0x20 11 ++ List.range' 0x30 14 ++ List.range' 0x40 13
    ++ List.range' 0x50 6).map (BitVec.ofNat 8)

theorem witness_ReadsReturnWithoutSideEffect :
    busyState.pending ≠ none ∧ 0x05#8 ∉ [0x00#8, 0x01#8, 0x02#8, 0x03#8, 0x04#8, 0x06#8, 0x07#8]
      ∧ Memory.read (withArgs 0 0 0 0 (zeros 8191 1)).mem (8191#13 : BitVec 13).toNat = some 0#8
      ∧ (∀ i ∈ [0x0E#8, 0x0F#8, 0x1B#8, 0x1F#8, 0x2B#8, 0x2F#8, 0x3E#8, 0x3F#8, 0x4D#8, 0x4F#8, 0x56#8, 0xFF#8],
        i ∉ implementedIndices) ∧ implementedIndices.length = 69 := by decide +kernel

/-- R22, R23: with a NOP pending after a fault, STATUS reads 0x00000003; bits 2 and 5 and RESULT's two bytes stand apart. -/
theorem test_status_reads :
    ({ busyState with status := { busyState.status with fault := true } } : State).indexWord 0x04#8 = 0x00000003#32
      ∧ ({ State.reset with status := ⟨false, true, false, false, true⟩ } : State).indexWord 0x04#8 = 0x00000024#32
      ∧ ({ State.reset with result := ⟨0x51#8, 0x02#8⟩ } : State).indexWord 0x05#8 = 0x00005102#32 := by decide +kernel

/-- R37, R153: a soft reset while a command is pending takes the stream position to 0 and keeps the buffer. -/
theorem test_soft_reset :
    next? (hostStep (.regWr 0x02#8 2#32) { busyState with rxPos := 5, rxEn := true, mem := zeros 0 1 }) (fun t =>
      t.rxPos == 0 && t.pending == none && !t.rxEn && t.mem == zeros 0 1) = true := by decide +kernel

theorem witness_WrittenRegisterReadsBack :
    State.reset.pending = none ∧ State.reset.rxEn = false ∧ (0x07#8, 0x7FF#32) ∈ [(0x07#8, 0x7FF#32), (0x55#8, 0xFFFFFFFF#32)]
      ∧ (rxOn State.reset).pending = none ∧ (rxOn State.reset).rxEn = true ∧ 0x1A#8 < 0x50#8 ∧ ¬0x50#8 < 0x50#8 := by
  decide

theorem witness_HostBufferWrites :
    State.reset.pending = none ∧ (inPhase .idle).rxEn = true ∧ (inPhase .idle).pending = none
      ∧ (∀ a ∈ [0x03FF, 0x0800, 0x0FFF, 0x1800], ¬(0x0400 ≤ a ∧ a < 0x0800) ∧ ¬(0x1000 ≤ a ∧ a < 0x1800))
      ∧ (∀ a ∈ [0x0400, 0x07FF, 0x1000, 0x17FF], 0x0400 ≤ a ∧ a < 0x0800 ∨ 0x1000 ≤ a ∧ a < 0x1800) := by decide

theorem witness_EventsAndInterrupt :
    ∀ i < 11, ({ State.reset with irqEn := 0x7FF#11 } : State).irqEn.getLsbD i = true ∧ (0x7FF#32 : Word).getLsbD i = true := by
  decide

theorem witness_StepKeepsInvariant : Inv State.reset ∧ step State.reset = .next State.reset := ⟨by decide +kernel, rfl⟩

theorem witness_OnlyUnwrittenBytesStopAStep :
    Inv { State.reset with inputs := [.host (.bufRd 0#13)] }
      ∧ step { State.reset with inputs := [.host (.bufRd 0#13)] } = .fault .uninitRead :=
  ⟨by decide +kernel, rfl⟩

end Sys2Proof.Tests
end

section
/-! SUPPORT. The lengths of what the codecs store and decode, and the bounds on an accepted length's partition
(spec/42_rs_codec.md R81, R84 to R89). -/

namespace Sys2Proof.Machine

/-! ### The decoder's messages (R81) -/

/-- A decoded message is never longer than the word without its parity. -/
theorem rsDec_ok_length_le (r d : List Byte) (nsym c : Nat) (h : rsDec r nsym = .ok d c) :
    d.length ≤ r.length - nsym := by
  unfold rsDec at h
  dsimp only at h
  split at h
  · cases h; exact List.length_take_le ..
  · split at h
    · cases h
    · split at h
      · cases h; exact List.length_take_le ..
      · cases h

/-! ### The partition of a length (R84) -/

/-- The partition in terms of quotient and remainder: the remainder counts the large blocks. -/
theorem partition_of_pos (len : Nat) (h : 0 < len) :
    partition len
      = let n := (len + 204) / 205
        ⟨n, len / n, len / n + 1, n - len % n, len % n, len / n / 5 + 10⟩ := by
  have hlarge : len - (len + 204) / 205 * (len / ((len + 204) / 205)) = len % ((len + 204) / 205) := by
    have := Nat.div_add_mod len ((len + 204) / 205)
    omega
  simp [partition, Config.blockDiv, hlarge, h.ne']

/-- A positive length's remainder is below its block count. -/
theorem mod_blockCnt_lt (len : Nat) (h : 0 < len) : len % ((len + 204) / 205) < (len + 204) / 205 :=
  Nat.mod_lt _ (by omega)

/-- The blocks hold the payload and nothing else. -/
theorem blockLens_sum (len : Nat) : (blockLens len).sum = len := by
  obtain rfl | hpos := Nat.eq_zero_or_pos len
  · rfl
  · have hmod := mod_blockCnt_lt len hpos
    have hdiv := Nat.mod_add_div len ((len + 204) / 205)
    simp only [blockLens, partition_of_pos len hpos, List.sum_append, List.sum_replicate, smul_eq_mul]
    rw [Nat.mul_succ, Nat.add_right_comm, ← Nat.add_mul, Nat.add_sub_cancel' hmod.le, Nat.add_comm]
    exact hdiv

/-- There are as many blocks as the partition counts. -/
theorem blockLens_length (len : Nat) : (blockLens len).length = (partition len).blockCnt := by
  obtain rfl | hpos := Nat.eq_zero_or_pos len
  · rfl
  · have hmod := mod_blockCnt_lt len hpos
    simp only [blockLens, partition_of_pos len hpos, List.length_append, List.length_replicate]
    omega

/-- An accepted length is at most MAX_PAYLOAD (R87). -/
theorem le_maxPayload_of_accepted (len : Nat) (h : sizeRefused len = false) : len ≤ 1023 := by
  obtain ⟨hover, -⟩ := Bool.or_eq_false_iff.1 h
  exact Nat.le_of_not_lt (of_decide_eq_false hover)

/-- An accepted length has at most five blocks. -/
theorem blockCnt_le_five (len : Nat) (h : sizeRefused len = false) : (partition len).blockCnt ≤ 5 := by
  have hlen := le_maxPayload_of_accepted len h
  obtain rfl | hpos := Nat.eq_zero_or_pos len
  · decide
  · simp only [partition_of_pos len hpos]
    omega

/-- An accepted length is at most 1273 bytes on the wire, so a frame is at most 1337 (R136). -/
theorem rawSize_le (len : Nat) (h : sizeRefused len = false) : rawSize len ≤ 1273 := by
  have hlen := le_maxPayload_of_accepted len h
  have hcnt := blockCnt_le_five len h
  obtain rfl | hpos := Nat.eq_zero_or_pos len
  · decide
  · simp only [rawSize, partition_of_pos len hpos] at hcnt ⊢
    obtain ⟨n, hn⟩ : ∃ n, (len + 204) / 205 = n := ⟨_, rfl⟩
    rw [hn] at hcnt ⊢
    interval_cases n <;> omega

/-! ### The payload codec (R88, R89) -/

/-- Encoding adds one parity run to each block. -/
theorem encBlocks_length_le (ecc : Nat) (lens : List Nat) (data : List Byte) :
    (encBlocks ecc lens data).length ≤ lens.sum + lens.length * ecc := by
  induction lens generalizing data with
  | nil => exact Nat.zero_le _
  | cons n lens ih =>
    have hrest := ih (data.drop n)
    have hblock : (data.take n).length ≤ n := List.length_take_le ..
    simp only [encBlocks, List.length_append, rsEnc_length, List.sum_cons, List.length_cons, Nat.succ_mul]
    omega

/-- An encoded payload fills at most the wire size of its length. -/
theorem payEnc_length_le (p : List Byte) : (payEnc p).length ≤ rawSize p.length := by
  have h := encBlocks_length_le (partition p.length).ecc (blockLens p.length) p
  rwa [blockLens_sum, blockLens_length] at h

/-- A decoded payload is at most as long as its blocks. -/
theorem decBlocks_data_length_le (ecc : Nat) (lens : List Nat) (i : Nat) (wire : List Byte) (k : Nat) :
    (decBlocks ecc lens i wire k).data.length ≤ lens.sum := by
  induction lens generalizing i wire k with
  | nil => exact Nat.le_refl _
  | cons n lens ih =>
    unfold decBlocks
    split
    · rename_i d c hd
      have hrest := ih (i + 1) (wire.drop (n + ecc)) k
      have hblock := rsDec_ok_length_le _ _ _ _ hd
      have htake : (wire.take (n + ecc)).length ≤ n + ecc := List.length_take_le ..
      simp only [List.length_append, List.sum_cons]
      omega
    · have hrest := ih (i + 1) (wire.drop (n + ecc)) (k + n)
      simp only [List.length_append, drawBytes_length, List.sum_cons]
      omega

/-- A decoded payload is at most as long as the length it was decoded for. -/
theorem payDec_data_length_le (wire : List Byte) (len k : Nat) : (payDec wire len k).data.length ≤ len := by
  have h := decBlocks_data_length_le (partition len).ecc (blockLens len) 0 wire k
  rwa [blockLens_sum] at h

/-- Blocks number i and on mark failures only below bit i + their count. -/
theorem decBlocks_failMask_lt (ecc : Nat) (lens : List Nat) (i : Nat) (wire : List Byte) (k : Nat) :
    (decBlocks ecc lens i wire k).failMask.toNat < 2 ^ (i + lens.length) := by
  induction lens generalizing i wire k with
  | nil => exact Nat.two_pow_pos _
  | cons n lens ih =>
    have hbits : i + 1 + lens.length = i + (n :: lens).length := by simp only [List.length_cons]; omega
    unfold decBlocks
    split
    · exact hbits ▸ ih (i + 1) (wire.drop (n + ecc)) k
    · have hrest := ih (i + 1) (wire.drop (n + ecc)) (k + n)
      have hbit : (1#32 <<< i).toNat < 2 ^ (i + 1 + lens.length) := by
        have hle : (1#32 <<< i).toNat ≤ 2 ^ i := by
          rw [BitVec.toNat_shiftLeft, BitVec.toNat_one (by omega), Nat.one_shiftLeft]
          exact Nat.mod_le ..
        exact hle.trans_lt (Nat.pow_lt_pow_right (by omega) (by omega))
      rw [← hbits, BitVec.toNat_or]
      exact Nat.or_lt_two_pow hrest hbit

/-- BLOCK_FAIL of an accepted length marks at most five blocks (R31). -/
theorem payDec_failMask_lt (wire : List Byte) (len k : Nat) (h : sizeRefused len = false) :
    (payDec wire len k).failMask.toNat < 32 := by
  have hmask := decBlocks_failMask_lt (partition len).ecc (blockLens len) 0 wire k
  have hcnt := blockCnt_le_five len h
  rw [blockLens_length, Nat.zero_add] at hmask
  exact hmask.trans_le (Nat.pow_le_pow_right (by omega) hcnt)

/-! ### Frames (R104, R106) -/

/-- A raw frame is a header codeword and the encoded payload. -/
theorem frameOf_length_le (stream : List Byte) (len : Nat) (h : stream.length = Config.hdrLen + len) :
    (frameOf stream).length ≤ Config.hdrRaw + rawSize len := by
  have hpay := payEnc_length_le (stream.drop Config.hdrLen)
  have hdrop : (stream.drop Config.hdrLen).length = len := by simp [h]
  rw [hdrop] at hpay
  simp only [frameOf, hdrEnc, List.length_append, rsEnc_length, List.length_take, h, Config.hdrLen, Config.hdrEcc,
    Config.hdrRaw] at hpay ⊢
  omega

/-- A header that the check accepts carries a length the block carries (R106). -/
theorem hdrCheck_good_accepts (r : List Byte) (h : HeaderRegs) (hs : List Byte) (c : Nat) (lfsr : BitVec 9)
    (hc : hdrCheck r = .good h hs c lfsr) : sizeRefused h.size.toNat = false := by
  unfold hdrCheck at hc
  split at hc
  · cases hc
  · dsimp only at hc
    split at hc
    · cases hc
    · rename_i hsize
      cases hc
      simpa using hsize

end Sys2Proof.Machine
end

section
/-! SUPPORT. What keeps the invariant, one rule per shared operation: the invariant apart from the pipe's accounts, buffer
stores, receive registers, faults and completions, and the pipe. A change of a field that the invariant does not read
needs no rule: the two invariants are then the same proposition. -/

namespace Sys2Proof.Machine

/-! ### The invariant in two parts -/

/-- The invariant apart from the pipe's accounts: what still holds between a pipe byte's store and its finish (R136). -/
def InvApartFromPipe (s : State) : Prop :=
  Memory.wf s.mem = true
    ∧ s.rx.barkerState.toNat < Config.barkerSeq.length
    ∧ s.prev.isSome = s.rx.state.needsPrev
    ∧ resultCodeLegal s.result.code = true
    ∧ (s.status.fault = true ↔ s.faultInfo.code ≠ 0#8)
    ∧ s.codec.blockFail.toNat < 32

theorem inv_iff (s : State) :
    Inv s ↔ InvApartFromPipe s ∧ pipeCountersAgree s = true ∧ pipeBytesWritten s = true := by
  unfold Inv InvApartFromPipe
  tauto

theorem apartFromPipe_of_inv (s : State) (h : Inv s) : InvApartFromPipe s := ((inv_iff s).1 h).1

theorem barkerState_lt_of_inv (s : State) (h : Inv s) : s.rx.barkerState.toNat < Config.barkerSeq.length := by
  obtain ⟨-, hbarker, -⟩ := h
  exact hbarker

/-- PREV is present exactly where the receiver needs it (R132). -/
theorem prev_isSome_of_inv (s : State) (h : Inv s) : s.prev.isSome = s.rx.state.needsPrev := by
  obtain ⟨-, -, hprev, -⟩ := h
  exact hprev

theorem pipeCountersAgree_of_known (s : State) (h : s.status.pipeHdrKnown = true) :
    pipeCountersAgree s = true
      ↔ 64 ≤ s.pipe.count.toNat ∧ 1 ≤ s.pipe.remaining.toNat
        ∧ s.pipe.count.toNat + s.pipe.remaining.toNat = s.pipe.frameLen.toNat ∧ s.pipe.frameLen.toNat ≤ 1337 := by
  simp [pipeCountersAgree, h, and_assoc]

theorem pipeCountersAgree_of_unknown (s : State) (h : s.status.pipeHdrKnown = false) :
    pipeCountersAgree s = true
      ↔ s.pipe.count.toNat < 64 ∧ s.pipe.remaining = 0#16 ∧ s.pipe.frameLen = 0#16 := by
  simp [pipeCountersAgree, h, and_assoc]

/-- The pipe's count stays far below its register's range and the buffer's end (R136). -/
theorem pipeCount_lt (s : State) (h : pipeCountersAgree s = true) : s.pipe.count.toNat < 1337 := by
  cases hk : s.status.pipeHdrKnown with
  | true => have := (pipeCountersAgree_of_known s hk).1 h; omega
  | false => have := (pipeCountersAgree_of_unknown s hk).1 h; omega

theorem pipeBytesWritten_iff (s : State) :
    pipeBytesWritten s = true ↔ ∀ i < s.pipe.count.toNat, (Memory.read s.mem (frameRx + i)).isSome := by
  simp [pipeBytesWritten]

/-! ### Buffer stores -/

/-- A store of a region inside the buffer keeps the invariant. -/
theorem inv_writeBytes (s : State) (a : Nat) (bs : List Byte) (h : Inv s) (ha : a + bs.length ≤ Config.bufSize) :
    Inv { s with mem := Memory.writeBytes s.mem a bs } := by
  obtain ⟨hmem, hbarker, hprev, hpipe, hbytes, hrest⟩ := h
  refine ⟨wf_writeBytes _ _ _ hmem ha, hbarker, hprev, hpipe, (pipeBytesWritten_iff _).2 fun i hi => ?_, hrest⟩
  exact read_writeBytes_isSome _ _ _ _ ((pipeBytesWritten_iff s).1 hbytes i hi)

/-- A store of one byte inside the buffer keeps the invariant. -/
theorem inv_write (s : State) (a : Nat) (b : Byte) (h : Inv s) (ha : a < Config.bufSize) :
    Inv { s with mem := Memory.write s.mem a b } := inv_writeBytes s a [b] h ha

/-! ### Codec status -/

/-- The registers of a payload decode keep the invariant when the failure mask has at most five bits. -/
theorem inv_setPayResult (s : State) (len : Nat) (r : PayResult) (h : Inv s) (hr : r.failMask.toNat < 32) :
    Inv (s.setPayResult len r) := by
  obtain ⟨hmem, hbarker, hprev, hpipe, hbytes, hresult, hfault, -⟩ := h
  exact ⟨hmem, hbarker, hprev, hpipe, hbytes, hresult, hfault, hr⟩

/-! ### The receive registers and PREV -/

/-- New receive registers and a new PREV keep the invariant when they agree with each other. -/
theorem inv_receive (s : State) (rx : RxRegs) (prev : Option Window) (h : Inv s)
    (hb : rx.barkerState.toNat < Config.barkerSeq.length) (hp : prev.isSome = rx.state.needsPrev) :
    Inv { s with rx := rx, prev := prev } := by
  obtain ⟨hmem, -, -, hpipe, hbytes, hrest⟩ := h
  exact ⟨hmem, hb, hp, hpipe, hbytes, hrest⟩

/-- The Moore machine never leaves its range, whatever state it is in (R127). -/
theorem barkerStep_lt (k : BitVec 5) (b : Bool) : (barkerStep k b).1.toNat < Config.barkerSeq.length := by
  have hnext : (barkerStepWith Config.barkerSeq Config.barkerRetest k.toNat b).1 < Config.barkerSeq.length := by
    unfold barkerStepWith
    split
    · rename_i hmatch
      have hk : k.toNat < Config.barkerSeq.length := (List.getElem?_eq_some_iff.1 hmatch).1
      split
      · exact Nat.succ_pos _
      · dsimp only; omega
    · split <;> decide
  exact (Nat.mod_le _ _).trans_lt hnext

theorem inv_feedBarker (s : State) (b : Bool) (h : Inv s) : Inv (s.feedBarker b) :=
  inv_receive s { s.rx with barkerState := (barkerStep s.rx.barkerState b).1 } s.prev h (barkerStep_lt _ b)
    (prev_isSome_of_inv s h)

/-! ### Faults and completion (R143, R144) -/

/-- No contract-class code has the value 0, which FAULT_INFO holds before the first fault. -/
theorem contract_value_ne_zero (c : ResultCode) (h : c.isContract = true) : c.value ≠ 0#8 := by
  revert h
  cases c <;> decide

/-- Recording a contract-class fault keeps the invariant. -/
theorem inv_raiseFault (s : State) (c : ResultCode) (o : Byte) (h : Inv s) (hc : c.isContract = true) :
    Inv (s.raiseFault c o) := by
  unfold State.raiseFault
  split
  · exact h
  · obtain ⟨hmem, hbarker, hprev, hpipe, hbytes, hresult, -, hblock⟩ := h
    exact ⟨hmem, hbarker, hprev, hpipe, hbytes, hresult, iff_of_true rfl (contract_value_ne_zero c hc), hblock⟩

/-- Completion with a code that RESULT may hold keeps the invariant. -/
theorem inv_complete (s : State) (o : Byte) (c : ResultCode) (h : Inv s) (hc : resultCodeLegal c.value = true) :
    Inv (s.complete o c) := by
  obtain ⟨hmem, hbarker, hprev, hpipe, hbytes, -, hfault, hblock⟩ := h
  unfold State.complete
  dsimp only
  split
  · rename_i hcontract
    exact inv_raiseFault _ c o ⟨hmem, hbarker, hprev, hpipe, hbytes, hc, hfault, hblock⟩ hcontract
  · exact ⟨hmem, hbarker, hprev, hpipe, hbytes, hc, hfault, hblock⟩

/-! ### The pipe (R135, R136) -/

/-- Resetting the pipe's counters restores its accounts, whatever they were. -/
theorem inv_pipeCounterReset (s : State) (h : InvApartFromPipe s) : Inv s.pipeCounterReset :=
  (inv_iff _).2 ⟨h, rfl, rfl⟩

theorem inv_rxReset (s : State) (h : Inv s) : Inv s.rxReset :=
  inv_receive s.pipeCounterReset .zero none (inv_pipeCounterReset s (apartFromPipe_of_inv s h)) (by decide) rfl

/-- The store of a pipe byte keeps the rest of the invariant, and every byte counted is then written. -/
theorem pipeStore_keeps (s : State) (b : Byte) (h : Inv s) :
    InvApartFromPipe (s.pipeStore b) ∧ pipeBytesWritten (s.pipeStore b) = true := by
  obtain ⟨⟨hmem, hrest⟩, hcount, hbytes⟩ := (inv_iff s).1 h
  have hlt := pipeCount_lt s hcount
  refine ⟨⟨wf_write _ _ _ hmem (by simp only [frameRx, Config.bufSize]; omega), hrest⟩,
    (pipeBytesWritten_iff _).2 fun i hi => ?_⟩
  rw [pipeStore_mem, read_write]
  split
  · rfl
  · rename_i hother
    have hi' : i < s.pipe.count.toNat + 1 := hi.trans_le (by simpa [BitVec.toNat_add] using Nat.mod_le _ _)
    exact (pipeBytesWritten_iff s).1 hbytes i (by omega)

/-- The end of a pipe byte restores the accounts when they agree at the latest once the countdown is at 0. -/
theorem inv_pipeFinish (s : State) (r f : Int) (h : InvApartFromPipe s) (hb : pipeBytesWritten s = true)
    (hc : (s.status.pipeHdrKnown && s.pipe.remaining == 0#16) = false → pipeCountersAgree s = true) :
    Inv (pipeFinish s r f).state := by
  unfold pipeFinish
  split
  · exact inv_pipeCounterReset s h
  · rename_i hopen
    exact (inv_iff _).2 ⟨h, hc (by simpa using hopen), hb⟩

/-- A failed header restores the accounts. -/
theorem inv_pipeFail (s : State) (code : ResultCode) (h : InvApartFromPipe s) : Inv (pipeFail s code).state :=
  inv_pipeCounterReset s h

@[simp] theorem pipeFail_failed (s : State) (code : ResultCode) : (pipeFail s code).failed = some code := rfl

@[simp] theorem pipeFinish_failed (s : State) (r f : Int) : (pipeFinish s r f).failed = none := by
  unfold pipeFinish; split <;> rfl

/-- Every pipe byte keeps the invariant (R136). -/
theorem inv_pipeAdd (b : Byte) (s : State) (out : PipeOut) (h : Inv s) (hout : pipeAdd b s = .ok out) :
    Inv out.state := by
  obtain ⟨hapart, hbytes⟩ := pipeStore_keeps s b h
  obtain ⟨-, hcount, -⟩ := (inv_iff s).1 h
  have hlt := pipeCount_lt s hcount
  have hsucc : (s.pipe.count + 1#16).toNat = s.pipe.count.toNat + 1 := by
    rw [BitVec.toNat_add_of_lt] <;> simp; omega
  obtain ⟨-, ⟨hk, rfl⟩ | ⟨hk, hshort, rfl⟩ | ⟨hk, hfull, header, -, hheader⟩⟩ := pipeAdd_ok b s out hout
  case inl =>
    obtain ⟨hmin, hleft, htotal, hmax⟩ := (pipeCountersAgree_of_known s hk).1 hcount
    have hpred : (s.pipe.remaining - 1#16).toNat = s.pipe.remaining.toNat - 1 := by
      rw [BitVec.toNat_sub_of_le] <;> simp [BitVec.le_def]; omega
    refine inv_pipeFinish _ _ _ hapart hbytes fun hopen => ?_
    have hmore : s.pipe.remaining - 1#16 ≠ 0#16 := by simpa [hk] using hopen
    have hmore' : (s.pipe.remaining - 1#16).toNat ≠ 0 := fun h0 => hmore (BitVec.eq_of_toNat_eq h0)
    rw [pipeCountersAgree_of_known _ (by exact hk)]
    simp only [pipeStore_pipe_count, pipeStore_pipe_frameLen, hsucc]
    omega
  case inr.inl =>
    obtain ⟨-, hrem, hlen⟩ := (pipeCountersAgree_of_unknown s hk).1 hcount
    refine inv_pipeFinish _ _ _ hapart hbytes fun _ => ?_
    rw [pipeCountersAgree_of_unknown _ (by exact hk)]
    exact ⟨hshort, hrem, hlen⟩
  case inr.inr =>
    obtain ⟨-, rfl⟩ | ⟨-, rfl⟩ | ⟨hdr, hs, ch, lfsr, hgood, rfl⟩ := hheader
    · exact inv_pipeFail _ _ hapart
    · exact inv_pipeFail _ _ hapart
    · have hraw := rawSize_le _ (hdrCheck_good_accepts _ _ _ _ _ hgood)
      have hcnt := ((pipeCountersAgree_of_unknown s hk).1 hcount).1
      refine inv_pipeFinish _ _ _ hapart hbytes fun hopen => ?_
      have hmore : BitVec.ofNat 16 (rawSize hdr.size.toNat) ≠ 0#16 := by simpa using hopen
      have hpos : rawSize hdr.size.toNat ≠ 0 := fun h0 => hmore (by rw [h0])
      rw [pipeCountersAgree_of_known _ rfl]
      simp only [Config.hdrRaw, pipeStore_pipe_count, hsucc, BitVec.toNat_ofNat] at hfull ⊢
      omega

/-- The code with which PIPE_ADD_BYTE completes is OK or a failed header's (R141). -/
theorem pipeAdd_code_legal (b : Byte) (s : State) (out : PipeOut) (hout : pipeAdd b s = .ok out) :
    resultCodeLegal (out.failed.getD .ok).value = true := by
  obtain ⟨-, ⟨-, rfl⟩ | ⟨-, -, rfl⟩ | ⟨-, -, header, -, hheader⟩⟩ := pipeAdd_ok b s out hout
  · rw [pipeFinish_failed]; rfl
  · rw [pipeFinish_failed]; rfl
  · obtain ⟨-, rfl⟩ | ⟨-, rfl⟩ | ⟨hdr, hs, ch, lfsr, -, rfl⟩ := hheader
    · rfl
    · rfl
    · rw [pipeFinish_failed]; rfl

end Sys2Proof.Machine
end

section
/-! SUPPORT. Every agent's step keeps the invariant, and so does every step of the block
(spec/30_encoding.md R61, spec/20_memory.md R42, spec/46_receiver.md R133, R139). -/

namespace Sys2Proof.Machine

/-! ### The frame of every command (R61) -/

/-- Whatever the execution answers, RESULT may hold the code and the state meets the invariant. -/
def KeepsInv (e : Execution) : Prop :=
  ∀ code s', e = .ok (code, s') → resultCodeLegal code.value = true ∧ Inv s'

theorem keepsInv_ok (code : ResultCode) (s : State) (hc : resultCodeLegal code.value = true) (h : Inv s) :
    KeepsInv (.ok (code, s)) := by
  rintro _ _ ⟨⟩
  exact ⟨hc, h⟩

theorem keepsInv_withBytes (m : Memory) (a n : Nat) (k : List Byte → Execution)
    (hk : ∀ bytes : List Byte, bytes.length = n → KeepsInv (k bytes)) : KeepsInv (withBytes m a n k) := by
  intro code s' h
  obtain ⟨bytes, hread, hbytes⟩ := (withBytes_ok _ _ _ _ _).1 h
  exact hk bytes (readBytes_length _ _ _ _ hread) code s' hbytes

theorem keepsInv_withPacked (s : State) (k : List Byte → Execution) (h : Inv s) (hk : KeepsInv (k (packBytes s.txh))) :
    KeepsInv (withPacked s k) := by
  intro code s' hs'
  obtain ⟨-, heq⟩ | ⟨-, hpacked⟩ := (withPacked_ok _ _ _).1 hs'
  · cases heq; exact ⟨rfl, h⟩
  · exact hk code s' hpacked

/-- A command keeps the invariant when its checks give codes RESULT may hold and its execution, once they have passed,
keeps it. -/
theorem inv_runCommand (opc : Byte) (checks : List Check) (e : Execution) (s t : State) (h : Inv s)
    (hcodes : checks.all (fun c => resultCodeLegal c.2.value) = true)
    (he : (∀ c ∈ checks, c.1 = false) → KeepsInv e) (ht : runCommand opc checks e s = .next t) : Inv t := by
  obtain ⟨code, hfail, rfl⟩ | ⟨hpass, code, s', hok, rfl⟩ := (runCommand_next _ _ _ _ _).1 ht
  · exact inv_complete s opc code h (List.all_eq_true.1 hcodes _ (firstFailure_eq_some _ _ hfail))
  · obtain ⟨hcode, hs'⟩ := he ((firstFailure_eq_none _).1 hpass) code s' hok
    exact inv_complete s' opc code hs' hcode

/-- A range check that has passed bounds its region (R39). -/
theorem le_bufSize_of_rangeCheck (checks : List Check) (a n : Nat) (hpass : ∀ c ∈ checks, c.1 = false)
    (hmem : rangeCheck a n ∈ checks) : a + n ≤ Config.bufSize := by
  simpa [rangeCheck, regionOk] using hpass _ hmem

/-! ### The frame decode (R109) -/

/-- The frame decode keeps the invariant. -/
theorem keepsInv_decodeFrameAt (src n dst : Nat) (s : State) (h : Inv s) : KeepsInv (decodeFrameAt src n dst s) := by
  intro code s' hs'
  obtain ⟨rfl, rfl | rfl | rfl | rfl⟩ | ⟨rfl, header, hdr, hs, ch, lfsr, wire, -, hgood, -, hdst, -, rfl⟩ :=
    decodeFrameAt_ok _ _ _ _ _ _ hs'
  · exact ⟨rfl, h⟩
  · exact ⟨rfl, h⟩
  · exact ⟨rfl, h⟩
  · exact ⟨rfl, h⟩
  · have hmask := payDec_failMask_lt wire _ s.draws (hdrCheck_good_accepts _ _ _ _ _ hgood)
    refine ⟨rfl, inv_writeBytes _ dst _ (inv_setPayResult s hdr.size.toNat _ h hmask) ?_⟩
    have hlen : dst + hdr.size.toNat ≤ Config.bufSize := by simpa [regionOk] using hdst
    exact (Nat.add_le_add_left (List.length_take_le ..) dst).trans hlen

/-! ### The commands -/

theorem inv_execNop (s t : State) (h : Inv s) (ht : execNop s = .next t) : Inv t := by
  refine inv_runCommand _ _ _ s t h rfl (fun _ => ?_) ht
  exact keepsInv_ok _ _ rfl h

theorem inv_execHdrPack (s t : State) (h : Inv s) (ht : execHdrPack s = .next t) : Inv t := by
  refine inv_runCommand _ _ _ s t h rfl (fun hpass => keepsInv_withPacked _ _ h ?_) ht
  refine keepsInv_ok _ _ rfl (inv_writeBytes s s.dst _ h ?_)
  rw [packBytes_length]
  exact le_bufSize_of_rangeCheck _ _ Config.hdrLen hpass (by simp)

theorem inv_execHdrUnpack (s t : State) (h : Inv s) (ht : execHdrUnpack s = .next t) : Inv t := by
  refine inv_runCommand _ _ _ s t h rfl (fun _ => keepsInv_withBytes _ _ _ _ fun input _ => ?_) ht
  exact keepsInv_ok _ _ rfl h

theorem inv_execRawSize (s t : State) (h : Inv s) (ht : execRawSize s = .next t) : Inv t := by
  refine inv_runCommand _ _ _ s t h rfl (fun _ => ?_) ht
  exact keepsInv_ok _ _ rfl h

theorem inv_execScramble (s t : State) (h : Inv s) (ht : execScramble s = .next t) : Inv t := by
  refine inv_runCommand _ _ _ s t h rfl (fun hpass => keepsInv_withBytes _ _ _ _ fun input hlen => ?_) ht
  refine keepsInv_ok _ _ rfl (inv_writeBytes s s.dst (scramble input).1 h ?_)
  rw [scramble_length, hlen]
  exact le_bufSize_of_rangeCheck _ _ _ hpass (by simp)

theorem inv_execDescramble (s t : State) (h : Inv s) (ht : execDescramble s = .next t) : Inv t := by
  refine inv_runCommand _ _ _ s t h rfl (fun hpass => keepsInv_withBytes _ _ _ _ fun input hlen => ?_) ht
  refine keepsInv_ok _ _ rfl (inv_writeBytes s s.dst (descramble input).1 h ?_)
  rw [descramble_length, hlen]
  exact le_bufSize_of_rangeCheck _ _ _ hpass (by simp)

theorem inv_execRsEncode (s t : State) (h : Inv s) (ht : execRsEncode s = .next t) : Inv t := by
  refine inv_runCommand _ _ _ s t h rfl (fun hpass => keepsInv_withBytes _ _ _ _ fun input hlen => ?_) ht
  refine keepsInv_ok _ _ rfl (inv_writeBytes s s.dst _ h ?_)
  rw [rsEnc_length, hlen]
  exact le_bufSize_of_rangeCheck _ _ _ hpass (by simp)

theorem inv_execRsDecode (s t : State) (h : Inv s) (ht : execRsDecode s = .next t) : Inv t := by
  refine inv_runCommand _ _ _ s t h rfl (fun hpass => keepsInv_withBytes _ _ _ _ fun input hlen => ?_) ht
  have hdst := le_bufSize_of_rangeCheck _ s.dst (s.len - s.nsym) hpass (by simp)
  split
  · rename_i d c hd
    have hd := rsDec_ok_length_le _ _ _ _ hd
    exact keepsInv_ok _ _ rfl (inv_writeBytes s s.dst d h (by omega))
  · exact keepsInv_ok _ _ rfl h

theorem inv_execHdrEncode (s t : State) (h : Inv s) (ht : execHdrEncode s = .next t) : Inv t := by
  refine inv_runCommand _ _ _ s t h rfl (fun hpass => keepsInv_withBytes _ _ _ _ fun input hlen => ?_) ht
  refine keepsInv_ok _ _ rfl (inv_writeBytes s s.dst _ h ?_)
  rw [hdrEnc, rsEnc_length, hlen]
  exact le_bufSize_of_rangeCheck _ _ Config.hdrRaw hpass (by simp)

theorem inv_execHdrDecode (s t : State) (h : Inv s) (ht : execHdrDecode s = .next t) : Inv t := by
  refine inv_runCommand _ _ _ s t h rfl (fun hpass => keepsInv_withBytes _ _ _ _ fun input hlen => ?_) ht
  have hdst := le_bufSize_of_rangeCheck _ s.dst Config.hdrLen hpass (by simp)
  split
  · rename_i d c hd
    have hd : d.length ≤ Config.hdrRaw - Config.hdrEcc := hlen ▸ rsDec_ok_length_le _ _ _ _ hd
    have hsplit : Config.hdrRaw - Config.hdrEcc = Config.hdrLen := rfl
    exact keepsInv_ok _ _ rfl (inv_writeBytes s s.dst d h (by omega))
  · exact keepsInv_ok _ _ rfl h

theorem inv_execPayEncode (s t : State) (h : Inv s) (ht : execPayEncode s = .next t) : Inv t := by
  refine inv_runCommand _ _ _ s t h rfl (fun hpass => keepsInv_withBytes _ _ _ _ fun input hlen => ?_) ht
  have hdst := le_bufSize_of_rangeCheck _ s.dst (rawSize s.len) hpass (by simp)
  have hout : (payEnc input).length ≤ rawSize s.len := hlen ▸ payEnc_length_le input
  exact keepsInv_ok _ _ rfl (inv_writeBytes s s.dst _ h (by omega))

theorem inv_execPayDecode (s t : State) (h : Inv s) (ht : execPayDecode s = .next t) : Inv t := by
  refine inv_runCommand _ _ _ s t h rfl (fun hpass => keepsInv_withBytes _ _ _ _ fun input _ => ?_) ht
  have hdst := le_bufSize_of_rangeCheck _ s.dst s.len hpass (by simp)
  have hsize : sizeRefused s.len = false := hpass (sizeRefused s.len, .eSize) (by simp)
  have hout := payDec_data_length_le input s.len s.draws
  have hset := inv_setPayResult s s.len _ h (payDec_failMask_lt input s.len s.draws hsize)
  exact keepsInv_ok _ _ rfl (inv_writeBytes _ s.dst _ hset (by omega))

theorem inv_execEncodeFrame (s t : State) (h : Inv s) (ht : execEncodeFrame s = .next t) : Inv t := by
  refine inv_runCommand _ _ _ s t h rfl (fun hpass => keepsInv_withBytes _ _ _ _ fun payload hlen => ?_) ht
  refine keepsInv_withPacked _ _ h ?_
  have hdst := le_bufSize_of_rangeCheck _ s.dst (Config.hdrRaw + rawSize s.txh.size.toNat) hpass (by simp)
  have hstream : (frameStream (packBytes s.txh) payload).1.length = Config.hdrLen + s.txh.size.toNat := by
    simp [frameStream, hlen, Config.hdrLen]
  generalize frameStream (packBytes s.txh) payload = out at hstream ⊢
  have hout := frameOf_length_le _ _ hstream
  exact keepsInv_ok _ _ rfl (inv_writeBytes s s.dst _ h (by omega))

theorem inv_execDecodeFrame (s t : State) (h : Inv s) (ht : execDecodeFrame s = .next t) : Inv t :=
  inv_runCommand _ _ _ s t h rfl (fun _ => keepsInv_decodeFrameAt _ _ _ s h) ht

theorem inv_execDecodeHeader (s t : State) (h : Inv s) (ht : execDecodeHeader s = .next t) : Inv t := by
  refine inv_runCommand _ _ _ s t h rfl (fun _ => keepsInv_withBytes _ _ _ _ fun header _ => ?_) ht
  split
  · exact keepsInv_ok _ _ rfl h
  · exact keepsInv_ok _ _ rfl h
  · exact keepsInv_ok _ _ rfl h

theorem inv_execPipeReset (s t : State) (h : Inv s) (ht : execPipeReset s = .next t) : Inv t := by
  unfold execPipeReset at ht
  refine inv_runCommand _ _ _ s t h rfl (fun _ => ?_) ht
  exact keepsInv_ok _ _ rfl (inv_pipeCounterReset s (apartFromPipe_of_inv s h))

theorem inv_execPipeAddByte (imm8 : Byte) (s t : State) (h : Inv s) (ht : execPipeAddByte imm8 s = .next t) : Inv t := by
  refine inv_runCommand _ _ _ s t h rfl (fun _ => ?_) ht
  intro code s' hs'
  split at hs'
  · cases hs'
  · rename_i out hout
    cases hs'
    exact ⟨pipeAdd_code_legal _ _ _ hout, inv_pipeAdd _ _ _ h hout⟩

theorem inv_execBarkerReset (s t : State) (h : Inv s) (ht : execBarkerReset s = .next t) : Inv t := by
  have hprev := prev_isSome_of_inv s h
  have hzero : (0#5).toNat < Config.barkerSeq.length := by decide
  refine inv_runCommand _ _ _ s t h rfl (fun _ => ?_) ht
  exact keepsInv_ok _ _ rfl (inv_receive s { s.rx with barkerState := 0#5 } s.prev h hzero hprev)

theorem inv_execBarkerStep (imm8 : Byte) (s t : State) (h : Inv s) (ht : execBarkerStep imm8 s = .next t) : Inv t := by
  refine inv_runCommand _ _ _ s t h rfl (fun _ => ?_) ht
  exact keepsInv_ok _ _ rfl (inv_feedBarker s _ h)

/-- Every command keeps the invariant. -/
theorem inv_exec (i : Instr) (s t : State) (h : Inv s) (ht : exec i s = .next t) : Inv t := by
  cases i with
  | nop => exact inv_execNop s t h ht
  | hdrPack => exact inv_execHdrPack s t h ht
  | hdrUnpack => exact inv_execHdrUnpack s t h ht
  | rawSize => exact inv_execRawSize s t h ht
  | scramble => exact inv_execScramble s t h ht
  | descramble => exact inv_execDescramble s t h ht
  | rsEncode => exact inv_execRsEncode s t h ht
  | rsDecode => exact inv_execRsDecode s t h ht
  | hdrEncode => exact inv_execHdrEncode s t h ht
  | hdrDecode => exact inv_execHdrDecode s t h ht
  | payEncode => exact inv_execPayEncode s t h ht
  | payDecode => exact inv_execPayDecode s t h ht
  | encodeFrame => exact inv_execEncodeFrame s t h ht
  | decodeFrame => exact inv_execDecodeFrame s t h ht
  | decodeHeader => exact inv_execDecodeHeader s t h ht
  | pipeReset => exact inv_execPipeReset s t h ht
  | pipeAddByte imm8 => exact inv_execPipeAddByte imm8 s t h ht
  | barkerReset => exact inv_execBarkerReset s t h ht
  | barkerStep imm8 => exact inv_execBarkerStep imm8 s t h ht

/-- The command unit keeps the invariant, on a legal word and on an illegal one (R56, R61). -/
theorem inv_cuStep (s t : State) (h : Inv s) (ht : cuStep s = .next t) : Inv t := by
  unfold cuStep at ht
  split at ht
  · cases ht; exact h
  · split at ht
    · cases ht; exact inv_complete s _ _ h rfl
    · exact inv_exec _ s t h ht

/-! ### The host (R42, R153) -/

theorem inv_reset : Inv State.reset := by
  refine ⟨wf_nil, ?_, rfl, rfl, rfl, rfl, ?_, ?_⟩ <;> decide

/-- A soft reset keeps the buffer and takes every register the invariant reads to its reset value. -/
theorem inv_softReset (s : State) (h : Inv s) : Inv s.softReset := by
  obtain ⟨hmem, -⟩ := h
  obtain ⟨-, hbarker, hprev, hpipe, -, hrest⟩ := inv_reset
  exact ⟨hmem, hbarker, hprev, hpipe, rfl, hrest⟩

theorem inv_regRead (i : BitVec 8) (s : State) (h : Inv s) : Inv (regRead i s) := by
  unfold regRead
  split <;> exact h

theorem inv_bufRead (a : BitVec 13) (s t : State) (h : Inv s) (ht : bufRead a s = .ok t) : Inv t := by
  unfold bufRead at ht
  split at ht
  · cases ht; exact h
  · split at ht <;> cases ht
    exact h

theorem inv_bufWrite (a : BitVec 13) (b : Byte) (s : State) (h : Inv s) : Inv (bufWrite a b s) := by
  unfold bufWrite
  split
  · exact inv_raiseFault s _ _ h rfl
  · split
    · exact inv_raiseFault s _ _ h rfl
    · exact inv_write s a.toNat b h a.isLt

theorem inv_writeCtrl (v : Word) (s : State) (h : Inv s) : Inv (writeCtrl v s) := by
  unfold writeCtrl
  split
  · exact inv_softReset s h
  · split
    · exact inv_raiseFault s _ _ h rfl
    · unfold State.writeRxEn
      split
      · exact h
      · exact inv_rxReset s h

theorem inv_writeCmd (v : Word) (s : State) (h : Inv s) : Inv (writeCmd v s) := by
  unfold writeCmd
  split
  · exact inv_raiseFault s _ _ h rfl
  · exact h

/-- The invariant reads no register that the host stores into. -/
theorem inv_store (r : Reg) (v : Word) (s : State) (h : Inv s) : Inv (s.store r v) := by
  cases r <;> exact h

theorem inv_writePlain (r : Option Reg) (v : Word) (s : State) (h : Inv s) : Inv (writePlain r v s) := by
  unfold writePlain
  split
  · exact inv_raiseFault s _ _ h rfl
  · split
    · exact h
    · split
      · exact inv_raiseFault s _ _ h rfl
      · exact inv_store _ v s h

theorem inv_regWrite (i : BitVec 8) (v : Word) (s : State) (h : Inv s) : Inv (regWrite i v s) := by
  unfold regWrite
  split
  · exact inv_writeCtrl v s h
  · exact inv_writeCmd v s h
  · exact h
  · exact h
  · exact inv_writePlain _ v s h

/-- Every host transaction keeps the invariant. -/
theorem inv_hostStep (x : Txn) (s t : State) (h : Inv s) (ht : hostStep x s = .next t) : Inv t := by
  cases x with
  | regRd i => cases ht; exact inv_regRead i s h
  | regWr i v => cases ht; exact inv_regWrite i v s h
  | bufWr a b => cases ht; exact inv_bufWrite a b s h
  | bufRd a =>
    unfold hostStep at ht
    dsimp only at ht
    split at ht
    · cases ht
    · rename_i s' hs'
      cases ht
      exact inv_bufRead a s _ h hs'

/-! ### The receive agent (R120) -/

theorem withPrev_ok (s t : State) (k : Window → Except Fault State) :
    withPrev s k = .ok t ↔ ∃ p, s.prev = some p ∧ k p = .ok t := by
  unfold withPrev
  cases s.prev <;> simp

/-- A search window leaves PREV absent and ends in a state that needs none (R121). -/
theorem inv_searchStep (d : Dsp) (w : Window) (s : State) (h : Inv s) (hs : s.rx.state.needsPrev = false) :
    Inv (searchStep d w s) := by
  have hbarker := barkerState_lt_of_inv s h
  have hprev := prev_isSome_of_inv s h
  have hcount : Inv (s.countSearch (coherent d s w)) := by
    refine inv_receive s (s.countSearch (coherent d s w)).rx s.prev h hbarker ?_
    rw [hprev, hs, countSearch_rx_state]
    split <;> rfl
  unfold searchStep
  dsimp only
  split
  · exact inv_receive (s.countSearch _) { (s.countSearch _).rx with state := .carrierLocked } s.prev hcount hbarker
      (hprev.trans hs)
  · split
    · exact inv_rxReset _ hcount
    · exact hcount

theorem inv_lockStep (d : Dsp) (w : Window) (s : State) (h : Inv s) : Inv (lockStep d w s) :=
  inv_receive s (lockStep d w s).rx (some w) h (by simp [lockStep, Config.barkerSeq]) rfl

theorem inv_barkerMatch (d : Dsp) (p w : Window) (s : State) (h : Inv s) (hs : s.rx.state = .barkerMatching) :
    Inv (barkerMatch d p w s) := by
  have hfed := inv_feedBarker s (flip d p w) h
  have hrange := barkerStep_lt s.rx.barkerState (flip d p w)
  have hcounted : Inv
      { s.feedBarker (flip d p w) with
        prev := some w
        rx := { (s.feedBarker (flip d p w)).rx with barkerCount := satSucc s.rx.barkerCount } } :=
    inv_receive _ { (s.feedBarker (flip d p w)).rx with barkerCount := satSucc s.rx.barkerCount } (some w) hfed hrange
      (by simp [hs, RxState.needsPrev])
  unfold barkerMatch
  dsimp only
  split
  · exact inv_receive (s.feedBarker (flip d p w)) _ (some w) hfed hrange rfl
  · split
    · exact inv_rxReset _ hcounted
    · exact hcounted

/-- A separator window becomes the phase reference (R124). -/
theorem inv_separatorDiscard (w : Window) (s : State) (h : Inv s) (hs : s.rx.state.needsPrev = true) :
    Inv (separatorDiscard w s) := by
  have hbarker := barkerState_lt_of_inv s h
  exact inv_receive s (separatorDiscard w s).rx (some w) h hbarker hs.symm

/-- The completed frame's work keeps the invariant (R139). -/
theorem inv_frameDone (n : Nat) (s t : State) (h : Inv s) (ht : frameDone n s = .ok t) : Inv t := by
  unfold frameDone at ht
  dsimp only at ht
  split at ht
  · cases ht
  · rename_i code s' hs'
    cases ht
    refine (keepsInv_decodeFrameAt _ _ _ _ ?_ code s' hs').2
    split <;> exact h

/-- Each case of the eighth bit keeps the invariant (R134). -/
theorem inv_rxByte (b : Byte) (s t : State) (h : Inv s) (ht : rxByte b s = .ok t) : Inv t := by
  unfold rxByte at ht
  split at ht
  · cases ht
  · rename_i out hout
    have hpipe := inv_pipeAdd b s out h hout
    split at ht
    · cases ht; exact inv_rxReset _ hpipe
    · split at ht
      · split at ht
        · cases ht
        · rename_i s' hs'
          cases ht
          exact inv_rxReset s' (inv_frameDone _ _ _ hpipe hs')
      · cases ht; exact hpipe

/-- A bit decision keeps the invariant and makes its window the phase reference (R132 to R134). -/
theorem inv_rxBit (d : Dsp) (p w : Window) (s t : State) (h : Inv s) (hs : s.rx.state.needsPrev = true)
    (ht : rxBit d p w s = .ok t) : Inv t := by
  have hbarker := barkerState_lt_of_inv s h
  unfold rxBit at ht
  dsimp only at ht
  split at ht
  · cases ht
    exact inv_receive s { s.rx with shift := _, bitCount := _ } (some w) h hbarker hs.symm
  · refine inv_rxByte _ _ t ?_ ht
    exact inv_receive s { s.rx with shift := 0#8, bitCount := 0#3 } (some w) h hbarker hs.symm

/-- One window in each state of the receiver (R120). -/
theorem inv_rxWindow (d : Dsp) (w : Window) (s t : State) (h : Inv s) (ht : rxWindow d w s = .ok t) : Inv t := by
  unfold rxWindow at ht
  split at ht
  case h_1 hs => cases ht; exact inv_searchStep d w s h (by rw [hs]; rfl)
  case h_2 hs => cases ht; exact inv_searchStep d w s h (by rw [hs]; rfl)
  case h_3 => cases ht; exact inv_lockStep d w s h
  case h_4 hs =>
    obtain ⟨p, -, hp⟩ := (withPrev_ok _ _ _).1 ht
    cases hp
    exact inv_barkerMatch d p w s h hs
  case h_5 hs =>
    have hneeds : s.rx.state.needsPrev = true := by rw [hs]; rfl
    have hbarker := barkerState_lt_of_inv s h
    have hprev := prev_isSome_of_inv s h
    split at ht
    · cases ht; exact inv_separatorDiscard w s h hneeds
    · obtain ⟨p, -, hp⟩ := (withPrev_ok _ _ _).1 ht
      have hdata : Inv { s with rx := { s.rx with state := .rxData } } :=
        inv_receive s { s.rx with state := .rxData } s.prev h hbarker (hprev.trans hneeds)
      exact inv_rxBit d p w _ t hdata rfl hp
  case h_6 hs =>
    obtain ⟨p, -, hp⟩ := (withPrev_ok _ _ _).1 ht
    exact inv_rxBit d p w s t h (by rw [hs]; rfl) hp

/-- Every element of the window stream keeps the invariant, for every signal processing (R114, R116). -/
theorem inv_rxStep (d : Dsp) (w : Window) (sq : Bool) (s t : State) (h : Inv s) (ht : rxStep d w sq s = .next t) :
    Inv t := by
  unfold rxStep at ht
  dsimp only at ht
  split at ht
  · split at ht
    · cases ht; exact inv_rxReset _ h
    · split at ht
      · cases ht
      · rename_i s' hs'
        cases ht
        exact inv_rxWindow d w { s with rxPos := s.rxPos + 1 } _ h hs'
  · cases ht; exact h

/-! ### The block -/

theorem inv_runTurn (x : Turn) (s t : State) (h : Inv s) (ht : runTurn x s = .next t) : Inv t := by
  cases x with
  | host txn => exact inv_hostStep txn s t h ht
  | cu => exact inv_cuStep s t h ht
  | window w sq => exact inv_rxStep Config.dsp w sq s t h ht

/-- Settles O59: the agent that the schedule names moves, or the command unit, and each agent keeps the invariant. -/
theorem stepKeepsInvariant : Obligations.StepKeepsInvariant := by
  intro s t h ht
  unfold step at ht
  split at ht
  · exact inv_cuStep s t h ht
  · rename_i x rest _
    exact inv_runTurn x { s with inputs := rest } t h ht

end Sys2Proof.Machine
end

section
/-! SUPPORT. The register map the other way and what a store into a plain read/write register changes
(spec/10_state.md R18, R24, R26, R28, R35). -/

namespace Sys2Proof.Machine

/-! ### The register map the other way (R18) -/

/-- A header register's offset from its block's base (R28). -/
def HdrReg.offset : HdrReg → Nat
  | .dstA => 0
  | .dstB => 1
  | .lsrcA => 2
  | .lsrcB => 3
  | .srcA => 4
  | .srcB => 5
  | .flags => 6
  | .size => 7
  | .mySeq => 8
  | .data01 => 9
  | .data23 => 10

/-- A register's index: the inverse of `regAt`. -/
def Reg.index : Reg → BitVec 8
  | .id => 0x00#8
  | .version => 0x01#8
  | .ctrl => 0x02#8
  | .cmd => 0x03#8
  | .status => 0x04#8
  | .result => 0x05#8
  | .event => 0x06#8
  | .irqEn => 0x07#8
  | .faultInfo => 0x08#8
  | .argSrc => 0x09#8
  | .argDst => 0x0A#8
  | .argLen => 0x0B#8
  | .argNsym => 0x0C#8
  | .txFrameLen => 0x0D#8
  | .txh r => BitVec.ofNat 8 (0x10 + r.offset)
  | .rxh r => BitVec.ofNat 8 (0x20 + r.offset)
  | .partBlocks => 0x30#8
  | .partSmallLen => 0x31#8
  | .partLargeLen => 0x32#8
  | .partSmallCnt => 0x33#8
  | .partLargeCnt => 0x34#8
  | .partEcc => 0x35#8
  | .partRaw => 0x36#8
  | .partFlags => 0x37#8
  | .blockFail => 0x38#8
  | .corrHdr => 0x39#8
  | .corrPay => 0x3A#8
  | .corrRs => 0x3B#8
  | .lfsrTx => 0x3C#8
  | .lfsrRx => 0x3D#8
  | .rxState => 0x40#8
  | .cohCount => 0x41#8
  | .winCount => 0x42#8
  | .barkerState => 0x43#8
  | .barkerCount => 0x44#8
  | .sepRemaining => 0x45#8
  | .gain => 0x46#8
  | .bitCount => 0x47#8
  | .shift => 0x48#8
  | .pipeCount => 0x49#8
  | .pipeRemaining => 0x4A#8
  | .pipeFrameLen => 0x4B#8
  | .pipeResult => 0x4C#8
  | .cfgCohThresh => 0x50#8
  | .cfgCarrierThreshold => 0x51#8
  | .cfgMaxOffset => 0x52#8
  | .cfgBarkerMax => 0x53#8
  | .cfgSepSymbols => 0x54#8
  | .cfgGainSkip => 0x55#8

/-- Every register stands at its index. -/
theorem regAt_index (r : Reg) : regAt r.index = some r := by
  cases r
  case txh h => cases h <;> rfl
  case rxh h => cases h <;> rfl
  all_goals rfl

theorem offset_of_hdrRegAt (n : Nat) (r : HdrReg) (h : hdrRegAt n = some r) : r.offset = n := by
  unfold hdrRegAt at h
  split at h <;> cases h <;> rfl

/-- A register stands at its index only. -/
theorem index_of_regAt (i : BitVec 8) (r : Reg) (h : regAt i = some r) : r.index = i := by
  refine BitVec.eq_of_toNat_eq ?_
  unfold regAt at h
  split at h
  case isTrue hrange =>
    obtain ⟨hdr, hhdr, rfl⟩ := Option.map_eq_some_iff.1 h
    have := offset_of_hdrRegAt _ _ hhdr
    simp only [Reg.index, BitVec.toNat_ofNat]
    omega
  case isFalse =>
    split at h
    case isTrue hrange =>
      obtain ⟨hdr, hhdr, rfl⟩ := Option.map_eq_some_iff.1 h
      have := offset_of_hdrRegAt _ _ hhdr
      simp only [Reg.index, BitVec.toNat_ofNat]
      omega
    case isFalse =>
      split at h <;> cases h <;> exact Eq.symm ‹i.toNat = _›

/-! ### Fields (R24, R26, R28, R35) -/

/-- The field mask of a header register (R28). -/
def HdrReg.fieldMask : HdrReg → Word
  | .dstA => 0xFFFFFFFF#32
  | .dstB => 0xFFFF#32
  | .lsrcA => 0xFFFFFFFF#32
  | .lsrcB => 0xFFFF#32
  | .srcA => 0xFFFFFFFF#32
  | .srcB => 0xFFFF#32
  | .flags => 0xFFF#32
  | .size => 0xFFFF#32
  | .mySeq => 0xFFFF#32
  | .data01 => 0xFFFFFFFF#32
  | .data23 => 0xFFFFFFFF#32

/-- The field mask of a plain read/write register; the others have none. -/
def Reg.fieldMask : Reg → Option Word
  | .irqEn => some 0x7FF#32
  | .argSrc => some 0x1FFF#32
  | .argDst => some 0x1FFF#32
  | .argLen => some 0xFFFF#32
  | .argNsym => some 0xFF#32
  | .txh r => some r.fieldMask
  | .cfgCohThresh => some 0xFFFF#32
  | .cfgCarrierThreshold => some 0xFFFF#32
  | .cfgMaxOffset => some 0xFFFFFFFF#32
  | .cfgBarkerMax => some 0xFFFFFFFF#32
  | .cfgSepSymbols => some 0xFFFF#32
  | .cfgGainSkip => some 0xFFFFFFFF#32
  | _ => none

/-- A value cut to a field's width and read back is the value under the field's mask. -/
theorem setWidth_setWidth_eq_and (w : Nat) (v : Word) (h : w ≤ 32) :
    (v.setWidth w).setWidth 32 = v &&& BitVec.ofNat 32 (2 ^ w - 1) := by
  have hpow : 2 ^ w ≤ 2 ^ 32 := Nat.pow_le_pow_right (by omega) h
  refine BitVec.eq_of_toNat_eq ?_
  rw [BitVec.toNat_and, BitVec.toNat_ofNat, Nat.mod_eq_of_lt (by omega), Nat.and_two_pow_sub_one_eq_mod,
    BitVec.toNat_setWidth, BitVec.toNat_setWidth, Nat.mod_eq_of_lt]
  exact (Nat.mod_lt _ (Nat.two_pow_pos w)).trans_le hpow

/-- A register of full width reads back the value itself. -/
theorem eq_and_full (v : Word) : v = v &&& 0xFFFFFFFF#32 := (BitVec.and_allOnes).symm

theorem word_set_same (h : HeaderRegs) (r : HdrReg) (v : Word) : (h.set r v).word r = v &&& r.fieldMask := by
  cases r with
  | dstA | lsrcA | srcA | data01 | data23 => exact eq_and_full v
  | dstB | lsrcB | srcB | size | mySeq => exact setWidth_setWidth_eq_and 16 v (by decide)
  | flags => exact setWidth_setWidth_eq_and 12 v (by decide)

theorem word_set_other (h : HeaderRegs) (r r' : HdrReg) (v : Word) (hr : r' ≠ r) : (h.set r v).word r' = h.word r' := by
  cases r <;> cases r' <;> simp at hr <;> rfl

/-! ### A host write to a plain read/write register (R42) -/

/-- The state after an accepted write to a plain read/write register: IRQ_EN's own write, and the store of the others. -/
def State.writeField (s : State) (r : Reg) (v : Word) : State :=
  match r with
  | .irqEn => { s with irqEn := v.setWidth 11 }
  | r => s.store r v

theorem writePlain_accepted (r : Reg) (v : Word) (s : State) (hp : s.pending = none)
    (hc : s.rxEn = true → isCfg r = false) : writePlain (some r) v s = s.store r v := by
  have howned : ¬(s.rxEn && isCfg r) = true := by simpa using hc
  simp only [writePlain, State.busy, hp, howned]
  rfl

/-- With nothing pending a write is accepted, but for CFG_* while the receiver is enabled (R155, R157). -/
theorem regWrite_accepted (i : BitVec 8) (r : Reg) (m v : Word) (s : State) (hi : regAt i = some r)
    (hm : r.fieldMask = some m) (hp : s.pending = none) (hc : s.rxEn = true → isCfg r = false) :
    regWrite i v s = s.writeField r v := by
  unfold regWrite
  rw [hi]
  split
  case h_1 heq => cases heq; cases hm
  case h_2 heq => cases heq; cases hm
  case h_3 heq => cases heq; cases hm
  case h_4 heq => cases heq; rfl
  case h_5 hirq =>
    rw [writePlain_accepted r v s hp hc]
    unfold State.writeField
    split
    · exact absurd rfl (hirq ·)
    · rfl

/-- The written register reads the value under its mask. -/
theorem regWord_writeField_same (s : State) (r : Reg) (m v : Word) (hm : r.fieldMask = some m) :
    (s.writeField r v).regWord r = v &&& m := by
  cases r <;> cases hm
  case irqEn => exact setWidth_setWidth_eq_and 11 v (by decide)
  case argSrc | argDst => exact setWidth_setWidth_eq_and 13 v (by decide)
  case argLen | cfgCohThresh | cfgCarrierThreshold | cfgSepSymbols => exact setWidth_setWidth_eq_and 16 v (by decide)
  case argNsym => exact setWidth_setWidth_eq_and 8 v (by decide)
  case txh h => exact word_set_same s.txh h v
  case cfgMaxOffset | cfgBarkerMax | cfgGainSkip => exact eq_and_full v

/-- Every other register reads as before. -/
theorem regWord_writeField_other (s : State) (r r' : Reg) (m v : Word) (hm : r.fieldMask = some m) (hr : r' ≠ r) :
    (s.writeField r v).regWord r' = s.regWord r' := by
  cases r <;> cases hm
  case txh h =>
    cases r'
    case txh h' => exact word_set_other s.txh h h' v fun heq => hr (heq ▸ rfl)
    all_goals rfl
  all_goals cases r' <;> simp at hr <;> rfl

/-- What the write leaves alone beside the registers. -/
theorem writeField_frame (s : State) (r : Reg) (v : Word) :
    (s.writeField r v).mem = s.mem ∧ (s.writeField r v).prev = s.prev ∧ (s.writeField r v).pending = s.pending
      ∧ (s.writeField r v).rxPos = s.rxPos ∧ (s.writeField r v).inputs = s.inputs
      ∧ (s.writeField r v).busOut = s.busOut ∧ (s.writeField r v).draws = s.draws := by
  cases r <;> exact ⟨rfl, rfl, rfl, rfl, rfl, rfl, rfl⟩

/-- An index other than the written register's reads as before: no two indices share a register. -/
theorem indexWord_writeField_other (s : State) (r : Reg) (m v : Word) (j : BitVec 8) (hm : r.fieldMask = some m)
    (hj : j ≠ r.index) : (s.writeField r v).indexWord j = s.indexWord j := by
  unfold State.indexWord
  cases hr' : regAt j with
  | none => rfl
  | some r' => exact regWord_writeField_other s r r' m v hm fun heq => hj (heq ▸ index_of_regAt j r' hr').symm

/-- The configuration registers stand from 0x50 on (R35). -/
theorem index_of_isCfg (r : Reg) (h : isCfg r = true) : 0x50#8 ≤ r.index := by
  cases r <;> cases h <;> decide

/-- The plain read/write registers in the order of their indices (R18). -/
def writableRegs : List Reg :=
  [.irqEn, .argSrc, .argDst, .argLen, .argNsym, .txh .dstA, .txh .dstB, .txh .lsrcA, .txh .lsrcB, .txh .srcA, .txh .srcB,
    .txh .flags, .txh .size, .txh .mySeq, .txh .data01, .txh .data23, .cfgCohThresh, .cfgCarrierThreshold,
    .cfgMaxOffset, .cfgBarkerMax, .cfgSepSymbols, .cfgGainSkip]

/-- The indices of the plain read/write registers with their field masks. -/
def fieldTable : List (BitVec 8 × Word) := writableRegs.filterMap fun r => r.fieldMask.map (r.index, ·)

/-- A row of the table is a register's index and field mask. -/
theorem mem_fieldTable (i : BitVec 8) (mask : Word) (h : (i, mask) ∈ fieldTable) :
    ∃ r : Reg, r.index = i ∧ r.fieldMask = some mask := by
  obtain ⟨r, -, hr⟩ := List.mem_filterMap.1 h
  obtain ⟨m, hm, heq⟩ := Option.map_eq_some_iff.1 hr
  cases heq
  exact ⟨r, rfl, hm⟩

/-- Settles O55: a row of the statement's table is a row of `fieldTable`, so a register of `writableRegs`. -/
theorem writtenRegisterReadsBack : Obligations.WrittenRegisterReadsBack := by
  intro s i mask v hrow hpending hcfg
  obtain ⟨r, rfl, hm⟩ := mem_fieldTable i mask hrow
  have howned : s.rxEn = true → isCfg r = false := fun hrx => by
    by_contra hc
    exact absurd (hcfg hrx) (BitVec.not_lt.2 (index_of_isCfg r (by simpa using hc)))
  obtain ⟨hmem, hprev, hpend, hpos, hinputs, hbus, hdraws⟩ := writeField_frame s r v
  refine ⟨s.writeField r v, ?_, ?_, fun j => indexWord_writeField_other s r mask v j hm, hmem, hprev,
    hpend.trans hpending, hpos, hinputs, hbus, hdraws⟩
  · simp only [hostStep, regWrite_accepted _ r mask v s (regAt_index r) hm hpending howned]
  · simp only [State.indexWord, regAt_index, regWord_writeField_same s r mask v hm]

end Sys2Proof.Machine
end

section
/-! SUPPORT. Where the shared operations stop, said once as the counterparts of `pipeAdd_ok` and `decodeFrameAt_ok`: the
pipe's byte and the frame decode (spec/20_memory.md R41, spec/46_receiver.md R136). -/

namespace Sys2Proof.Machine

/-- A pipe byte stops beyond the end of the buffer (log 9), or after 64 bytes with a hole in the header (R41). -/
theorem pipeAdd_error_iff (b : Byte) (s : State) (f : Fault) :
    pipeAdd b s = .error f
      ↔ (Config.bufSize ≤ frameRx + s.pipe.count.toNat ∧ f = .outsideBuffer)
        ∨ (frameRx + s.pipe.count.toNat < Config.bufSize ∧ s.status.pipeHdrKnown = false
            ∧ Config.hdrRaw ≤ (s.pipe.count + 1#16).toNat
            ∧ Memory.readBytes (s.pipeStore b).mem frameRx Config.hdrRaw = none ∧ f = .uninitRead) := by
  unfold pipeAdd
  split
  case isTrue hout => simp only [hout, Nat.not_lt.2 hout, Except.error.injEq, true_and, false_and, or_false, eq_comm]
  case isFalse hin =>
    simp only [hin, Nat.not_le.1 hin, false_and, true_and, false_or]
    split
    case isTrue hknown => simp [hknown]
    case isFalse hknown =>
      simp only [hknown, true_and]
      split
      case isTrue hshort =>
        rw [pipeStore_pipe_count] at hshort
        simp only [reduceCtorEq, Nat.not_le.2 hshort, false_and]
      case isFalse hfull =>
        rw [pipeStore_pipe_count, Nat.not_lt] at hfull
        split
        case h_1 hhole => simp only [hfull, hhole, Except.error.injEq, true_and, eq_comm]
        case h_2 header hread => split <;> simp only [hread, reduceCtorEq, false_and, and_false]

/-- The frame decode stops exactly where the header, or the payload of an accepted frame that fits, has a byte nothing
has written (R41, R109). -/
theorem decodeFrameAt_error_iff (src n dst : Nat) (s : State) (f : Fault) :
    decodeFrameAt src n dst s = .error f
      ↔ f = .uninitRead
        ∧ (Memory.readBytes s.mem src Config.hdrRaw = none
          ∨ ∃ header hdr hs ch lfsr, Memory.readBytes s.mem src Config.hdrRaw = some header
              ∧ hdrCheck header = .good hdr hs ch lfsr
              ∧ Config.hdrRaw + rawSize hdr.size.toNat ≤ n
              ∧ regionOk dst hdr.size.toNat = true
              ∧ Memory.readBytes s.mem (src + Config.hdrRaw) (rawSize hdr.size.toNat) = none) := by
  unfold decodeFrameAt
  rw [withBytes_error]
  cases hread : Memory.readBytes s.mem src Config.hdrRaw with
  | none => simp
  | some header =>
    cases hcheck : hdrCheck header with
    | rsBad => simp [hcheck]
    | sizeBad => simp [hcheck]
    | good hdr hs ch lfsr =>
      rcases Nat.lt_or_ge n (Config.hdrRaw + rawSize hdr.size.toNat) with hlen | hlen
      · simp [hcheck, hlen]
      · cases hdst : regionOk dst hdr.size.toNat with
        | false => simp [hcheck, Nat.not_lt.2 hlen, hdst]
        | true => simp [hcheck, Nat.not_lt.2 hlen, hlen, hdst, withBytes_error, and_comm]

end Sys2Proof.Machine
end

section
/-! SUPPORT. What stops a step: from a state that meets the invariant a command or a host read only for a byte nothing
has written, and a window never (spec/20_memory.md R41, spec/46_receiver.md R132, R136). -/

namespace Sys2Proof.Machine

/-! ### The commands (R41) -/

/-- The execution of a command stops for one reason only. -/
def StopsOnlyUnwritten (e : Execution) : Prop := ∀ f, e = .error f → f = .uninitRead

theorem stopsOnlyUnwritten_ok (r : ResultCode × State) : StopsOnlyUnwritten (.ok r) := by
  rintro f ⟨⟩

theorem stopsOnlyUnwritten_withBytes (m : Memory) (a n : Nat) (k : List Byte → Execution)
    (hk : ∀ bytes, StopsOnlyUnwritten (k bytes)) : StopsOnlyUnwritten (withBytes m a n k) := by
  intro f h
  obtain ⟨-, hf⟩ | ⟨bytes, -, hbytes⟩ := (withBytes_error _ _ _ _ _).1 h
  · exact hf
  · exact hk bytes f hbytes

theorem stopsOnlyUnwritten_withPacked (s : State) (k : List Byte → Execution)
    (hk : ∀ bytes, StopsOnlyUnwritten (k bytes)) : StopsOnlyUnwritten (withPacked s k) := by
  unfold withPacked
  split
  · exact stopsOnlyUnwritten_ok _
  · exact hk _

/-- While the pipe's accounts hold, its next byte is stored in the buffer and finds no hole in the header (R136). -/
theorem pipeAdd_isOk (b : Byte) (s : State) (h : Inv s) : ∃ out, pipeAdd b s = .ok out := by
  cases hadd : pipeAdd b s with
  | ok out => exact ⟨out, rfl⟩
  | error f =>
    exfalso
    obtain ⟨-, hcount, -⟩ := (inv_iff s).1 h
    have hwritten := (pipeBytesWritten_iff _).1 (pipeStore_keeps s b h).2
    obtain ⟨hout, -⟩ | ⟨-, -, hfull, hhole, -⟩ := (pipeAdd_error_iff b s f).1 hadd
    · have hlt := pipeCount_lt s hcount
      simp only [Config.bufSize, frameRx] at hout
      omega
    · have hread := (readBytes_isSome_iff _ frameRx Config.hdrRaw).2 fun i hi => hwritten i (hi.trans_le hfull)
      rw [hhole] at hread
      cases hread

/-- A command stops only where its execution does. -/
theorem uninitRead_of_runCommand (opc : Byte) (checks : List Check) (e : Execution) (s : State) (f : Fault)
    (hf : runCommand opc checks e s = .fault f) (he : StopsOnlyUnwritten e) : f = .uninitRead :=
  he f ((runCommand_fault _ _ _ _ _).1 hf).2

/-- A command that stops has read a byte nothing has written. -/
theorem uninitRead_of_exec (i : Instr) (s : State) (f : Fault) (h : Inv s) (hf : exec i s = .fault f) :
    f = .uninitRead := by
  unfold exec execPipeReset at hf
  cases i with
  | nop | rawSize | pipeReset | barkerReset | barkerStep =>
    exact uninitRead_of_runCommand _ _ _ s f hf (stopsOnlyUnwritten_ok _)
  | hdrUnpack | scramble | descramble | rsEncode | hdrEncode | payEncode | payDecode =>
    refine uninitRead_of_runCommand _ _ _ s f hf (stopsOnlyUnwritten_withBytes _ _ _ _ fun input => ?_)
    exact stopsOnlyUnwritten_ok _
  | rsDecode | hdrDecode | decodeHeader =>
    refine uninitRead_of_runCommand _ _ _ s f hf (stopsOnlyUnwritten_withBytes _ _ _ _ fun input => ?_)
    split <;> exact stopsOnlyUnwritten_ok _
  | hdrPack =>
    refine uninitRead_of_runCommand _ _ _ s f hf (stopsOnlyUnwritten_withPacked _ _ fun header => ?_)
    exact stopsOnlyUnwritten_ok _
  | encodeFrame =>
    refine uninitRead_of_runCommand _ _ _ s f hf (stopsOnlyUnwritten_withBytes _ _ _ _ fun payload => ?_)
    exact stopsOnlyUnwritten_withPacked _ _ fun header => stopsOnlyUnwritten_ok _
  | decodeFrame => exact uninitRead_of_runCommand _ _ _ s f hf (decodeFrameAt_error _ _ _ _)
  | pipeAddByte imm8 =>
    refine uninitRead_of_runCommand _ _ _ s f hf ?_
    obtain ⟨out, hout⟩ := pipeAdd_isOk imm8 s h
    rw [hout]
    exact stopsOnlyUnwritten_ok _

theorem uninitRead_of_cuStep (s : State) (f : Fault) (h : Inv s) (hf : cuStep s = .fault f) : f = .uninitRead := by
  unfold cuStep at hf
  split at hf
  · cases hf
  · split at hf
    · cases hf
    · exact uninitRead_of_exec _ s f h hf

/-! ### The host (R41) -/

theorem bufRead_error_iff (a : BitVec 13) (s : State) (f : Fault) :
    bufRead a s = .error f ↔ s.pending = none ∧ Memory.read s.mem a.toNat = none ∧ f = .uninitRead := by
  unfold bufRead State.busy
  cases s.pending with
  | some w => simp
  | none => cases Memory.read s.mem a.toNat <;> simp [eq_comm]

/-- Of the four transactions only BUF_RD can stop. -/
theorem hostStep_fault_iff (x : Txn) (s : State) (f : Fault) :
    hostStep x s = .fault f ↔ ∃ a, x = .bufRd a ∧ bufRead a s = .error f := by
  cases x with
  | regRd | regWr | bufWr => simp [hostStep]
  | bufRd a => cases hread : bufRead a s <;> simp [hostStep, hread]

/-! ### The windows (R132, R136, R139) -/

@[simp] theorem pipeFail_done (s : State) (code : ResultCode) : (pipeFail s code).done = false := rfl

@[simp] theorem pipeFinish_done (s : State) (r f : Int) :
    (pipeFinish s r f).done = (s.status.pipeHdrKnown && s.pipe.remaining == 0#16) := by
  unfold pipeFinish; split <;> simp_all

@[simp] theorem pipeFinish_frameLen (s : State) (r f : Int) : (pipeFinish s r f).frameLen = s.pipe.frameLen.toNat := by
  unfold pipeFinish; split <;> rfl

@[simp] theorem pipeFinish_state_mem (s : State) (r f : Int) : (pipeFinish s r f).state.mem = s.mem := by
  unfold pipeFinish; split <;> rfl

/-- A frame that the pipe completes holds a header, and all its bytes are written in FRAME_RX (R136). -/
theorem pipeAdd_done_written (b : Byte) (s : State) (out : PipeOut) (h : Inv s) (hout : pipeAdd b s = .ok out)
    (hdone : out.done = true) :
    Config.hdrRaw ≤ out.frameLen ∧ ∀ i < out.frameLen, (Memory.read out.state.mem (frameRx + i)).isSome := by
  have hwritten := (pipeBytesWritten_iff _).1 (pipeStore_keeps s b h).2
  obtain ⟨-, hcount, -⟩ := (inv_iff s).1 h
  have hlt := pipeCount_lt s hcount
  have hsucc : (s.pipe.count + 1#16).toNat = s.pipe.count.toNat + 1 := by
    rw [BitVec.toNat_add_of_lt] <;> simp; omega
  rw [pipeStore_pipe_count, hsucc] at hwritten
  obtain ⟨-, ⟨hk, rfl⟩ | ⟨hk, -, rfl⟩ | ⟨hk, hfull, header, -, hheader⟩⟩ := pipeAdd_ok b s out hout
  case inl =>
    obtain ⟨hmin, hleft, htotal, hmax⟩ := (pipeCountersAgree_of_known s hk).1 hcount
    have hlast : s.pipe.remaining - 1#16 = 0#16 := by simpa [hk] using hdone
    have hlast' : s.pipe.remaining.toNat = 1 := by bv_omega
    simp only [pipeFinish_frameLen, pipeFinish_state_mem, pipeStore_pipe_frameLen, Config.hdrRaw]
    exact ⟨by omega, fun i hi => hwritten i (by omega)⟩
  case inr.inl => simp [hk] at hdone
  case inr.inr =>
    obtain ⟨-, rfl⟩ | ⟨-, rfl⟩ | ⟨hdr, hs, ch, lfsr, hgood, rfl⟩ := hheader
    · cases hdone
    · cases hdone
    · have hraw := rawSize_le _ (hdrCheck_good_accepts _ _ _ _ _ hgood)
      have hempty : BitVec.ofNat 16 (rawSize hdr.size.toNat) = 0#16 := by simpa using hdone
      have hempty' : rawSize hdr.size.toNat = 0 := by
        have := congrArg BitVec.toNat hempty
        simp at this
        omega
      simp only [pipeFinish_frameLen, pipeFinish_state_mem, hempty']
      rw [hsucc] at hfull
      exact ⟨by decide, fun i hi => hwritten i (lt_of_lt_of_le hi hfull)⟩

/-- The frame decode does not stop on a frame that is written from its first byte to its last. -/
theorem decodeFrameAt_isOk (src n dst : Nat) (s : State) (hn : Config.hdrRaw ≤ n)
    (hwritten : ∀ i < n, (Memory.read s.mem (src + i)).isSome) :
    ∃ code s', decodeFrameAt src n dst s = .ok (code, s') := by
  cases hdecode : decodeFrameAt src n dst s with
  | ok r => exact ⟨r.1, r.2, rfl⟩
  | error f =>
    exfalso
    obtain ⟨-, hhole | ⟨header, hdr, hs, ch, lfsr, -, -, hfits, -, hhole⟩⟩ :=
      (decodeFrameAt_error_iff _ _ _ _ _).1 hdecode
    · have hread := (readBytes_isSome_iff s.mem src _).2 fun i hi => hwritten i (lt_of_lt_of_le hi hn)
      rw [hhole] at hread
      cases hread
    · have hread := (readBytes_isSome_iff s.mem (src + Config.hdrRaw) (rawSize hdr.size.toNat)).2 fun i hi => by
        rw [Nat.add_assoc]
        exact hwritten (Config.hdrRaw + i) (by omega)
      rw [hhole] at hread
      cases hread

/-- The work of a completed frame does not stop (R139). -/
theorem frameDone_isOk (n : Nat) (s : State) (hn : Config.hdrRaw ≤ n)
    (hwritten : ∀ i < n, (Memory.read s.mem (frameRx + i)).isSome) : ∃ t, frameDone n s = .ok t := by
  unfold frameDone
  dsimp only
  obtain ⟨code, s', hok⟩ := decodeFrameAt_isOk frameRx n payRx
    (if s.event &&& Ev.frameReady ≠ 0#11 then s.emit Ev.rxOverrun else s) hn (by split <;> exact hwritten)
  rw [hok]
  exact ⟨_, rfl⟩

theorem rxByte_isOk (b : Byte) (s : State) (h : Inv s) : ∃ t, rxByte b s = .ok t := by
  obtain ⟨out, hout⟩ := pipeAdd_isOk b s h
  unfold rxByte
  rw [hout]
  dsimp only
  split
  · exact ⟨_, rfl⟩
  · split
    · rename_i hdone
      obtain ⟨hlen, hwritten⟩ := pipeAdd_done_written b s out h hout hdone
      obtain ⟨t, ht⟩ := frameDone_isOk out.frameLen out.state hlen hwritten
      rw [ht]
      exact ⟨_, rfl⟩
    · exact ⟨_, rfl⟩

theorem rxBit_isOk (d : Dsp) (p w : Window) (s : State) (h : Inv s) (hs : s.rx.state.needsPrev = true) :
    ∃ t, rxBit d p w s = .ok t := by
  unfold rxBit
  dsimp only
  split
  · exact ⟨_, rfl⟩
  · refine rxByte_isOk _ _ ?_
    exact inv_receive s { s.rx with shift := 0#8, bitCount := 0#3 } (some w) h (barkerState_lt_of_inv s h) hs.symm

/-- The phase reference is present wherever a bit is decided (R132). -/
theorem withPrev_of_needsPrev (s : State) (k : Window → Except Fault State) (h : Inv s)
    (hs : s.rx.state.needsPrev = true) : ∃ p, withPrev s k = k p := by
  obtain ⟨p, hp⟩ := Option.isSome_iff_exists.1 ((prev_isSome_of_inv s h).trans hs)
  exact ⟨p, by simp only [withPrev, hp]⟩

/-- No state of the receiver stops on a window (R120). -/
theorem rxWindow_isOk (d : Dsp) (w : Window) (s : State) (h : Inv s) : ∃ t, rxWindow d w s = .ok t := by
  unfold rxWindow
  split
  case h_1 | h_2 | h_3 => exact ⟨_, rfl⟩
  case h_4 hs =>
    obtain ⟨p, hp⟩ := withPrev_of_needsPrev s (fun p => .ok (barkerMatch d p w s)) h (by rw [hs]; rfl)
    exact ⟨_, hp⟩
  case h_5 hs =>
    have hneeds : s.rx.state.needsPrev = true := by rw [hs]; rfl
    split
    · exact ⟨_, rfl⟩
    · have hdata : Inv { s with rx := { s.rx with state := .rxData } } :=
        inv_receive s { s.rx with state := .rxData } s.prev h (barkerState_lt_of_inv s h)
          ((prev_isSome_of_inv s h).trans hneeds)
      obtain ⟨p, hp⟩ := withPrev_of_needsPrev s _ h hneeds
      rw [hp]
      exact rxBit_isOk d p w _ hdata rfl
  case h_6 hs =>
    have hneeds : s.rx.state.needsPrev = true := by rw [hs]; rfl
    obtain ⟨p, hp⟩ := withPrev_of_needsPrev s (fun p => rxBit d p w s) h hneeds
    rw [hp]
    exact rxBit_isOk d p w s h hneeds

/-- Every element of the window stream has a next state (R114). -/
theorem rxStep_isNext (d : Dsp) (w : Window) (sq : Bool) (s : State) (h : Inv s) :
    ∃ t, rxStep d w sq s = .next t := by
  unfold rxStep
  dsimp only
  split
  · split
    · exact ⟨_, rfl⟩
    · obtain ⟨t, ht⟩ := rxWindow_isOk d w { s with rxPos := s.rxPos + 1 } h
      rw [ht]
      exact ⟨_, rfl⟩
  · exact ⟨_, rfl⟩

/-! ### No refusal -/

theorem exec_ne_refused (i : Instr) (s : State) (r : Refusal) : exec i s ≠ .refused r := by
  unfold exec execPipeReset
  cases i <;> exact runCommand_ne_refused _ _ _ s r

theorem cuStep_ne_refused (s : State) (r : Refusal) : cuStep s ≠ .refused r := by
  unfold cuStep
  split
  · nofun
  · split
    · nofun
    · exact exec_ne_refused _ _ _

theorem hostStep_ne_refused (x : Txn) (s : State) (r : Refusal) : hostStep x s ≠ .refused r := by
  cases x with
  | regRd | regWr | bufWr => nofun
  | bufRd a => cases hread : bufRead a s <;> simp [hostStep, hread]

theorem rxStep_ne_refused (d : Dsp) (w : Window) (sq : Bool) (s : State) (r : Refusal) :
    rxStep d w sq s ≠ .refused r := by
  unfold rxStep
  dsimp only
  split
  · split
    · nofun
    · split <;> nofun
  · nofun

/-! ### The block -/

theorem uninitRead_of_runTurn (x : Turn) (s : State) (f : Fault) (h : Inv s) (hf : runTurn x s = .fault f) :
    f = .uninitRead := by
  cases x with
  | host txn =>
    obtain ⟨a, -, hread⟩ := (hostStep_fault_iff txn s f).1 hf
    obtain ⟨-, -, huninit⟩ := (bufRead_error_iff a s f).1 hread
    exact huninit
  | cu => exact uninitRead_of_cuStep s f h hf
  | window w sq =>
    obtain ⟨t, ht⟩ := rxStep_isNext Config.dsp w sq s h
    rw [runTurn, ht] at hf
    cases hf

theorem runTurn_ne_refused (x : Turn) (s : State) (r : Refusal) : runTurn x s ≠ .refused r := by
  cases x with
  | host txn => exact hostStep_ne_refused txn s r
  | cu => exact cuStep_ne_refused s r
  | window w sq => exact rxStep_ne_refused Config.dsp w sq s r

/-- Settles O60: each agent stops only for an unwritten byte and is never refused, and the receive agent never stops. -/
theorem onlyUnwrittenBytesStopAStep : Obligations.OnlyUnwrittenBytesStopAStep := by
  refine ⟨fun s f h hf => ?_, fun d w sq s h => ?_, fun s r => ?_⟩
  · unfold step at hf
    split at hf
    · exact uninitRead_of_cuStep s f h hf
    · rename_i x rest _
      exact uninitRead_of_runTurn x { s with inputs := rest } f h hf
  · obtain ⟨t, ht⟩ := rxStep_isNext d w sq s h
    exact ⟨t, ht, inv_rxStep d w sq s t h ht⟩
  · unfold step
    split
    · exact cuStep_ne_refused s r
    · exact runTurn_ne_refused _ _ r

end Sys2Proof.Machine
end

section
/-! SUPPORT. The ordered checks of R62 one by one, and what a command answers when a region crosses the end of the
buffer or its input is unwritten (spec/20_memory.md R39, R41, spec/30_encoding.md R62). -/

namespace Sys2Proof.Machine

/-! ### The checks one by one (R62, R158) -/

theorem hazardCheck_of_disabled (s : State) (h : s.rxEn = false) : hazardCheck s = (false, .eHazard) := by
  rw [hazardCheck, h]

theorem rangeCheck_of_le (a n : Nat) (h : a + n ≤ 8192) : rangeCheck a n = (false, .eRange) := by
  rw [rangeCheck, regionOk, decide_eq_true (show a + n ≤ Config.bufSize from h)]
  rfl

theorem rangeCheck_of_lt (a n : Nat) (h : 8192 < a + n) : rangeCheck a n = (true, .eRange) := by
  rw [rangeCheck, regionOk, decide_eq_false (show ¬a + n ≤ Config.bufSize from Nat.not_le.2 h)]
  rfl

theorem destHazardCheck_of_free (s : State) (n : Nat) (h : destFree s n) :
    destHazardCheck s s.dst n = (false, .eHazard) := by
  rw [destHazardCheck, h]

theorem hopsBad_eq_false (h : HeaderRegs) (hle : h.hopsRem.toNat ≤ h.hops.toNat) : h.hopsBad = false :=
  decide_eq_false (Nat.not_lt.2 hle)

theorem rsEncodeParamsBad_eq_false (k nsym : Nat) (hk : 1 ≤ k) (hnsym : 1 ≤ nsym) (hmax : k + nsym ≤ 255) :
    rsEncodeParamsBad k nsym = false := by
  simp [rsEncodeParamsBad, hk, hnsym, show k + nsym ≤ Config.rsNMax from hmax]

theorem rsDecodeParamsBad_eq_false (n nsym : Nat) (hnsym : 1 ≤ nsym) (hn : nsym + 1 ≤ n) (hmax : n ≤ 255) :
    rsDecodeParamsBad n nsym = false := by
  simp [rsDecodeParamsBad, hnsym, Nat.lt_of_succ_le hn, show n ≤ Config.rsNMax from hmax]

theorem headerLength_ok (n : Nat) (h : 64 ≤ n) : decide (n < Config.hdrRaw) = false := decide_eq_false (Nat.not_lt.2 h)

/-- Of a source and a destination the first that crosses the end gives E_RANGE (R62). -/
theorem firstFailure_ranges (a n b m : Nat) (rest : List Check) (h : 8192 < a + n ∨ 8192 < b + m) :
    firstFailure (rangeCheck a n :: rangeCheck b m :: rest) = some .eRange := by
  rcases Nat.lt_or_ge 8192 (a + n) with hsrc | hsrc
  · rw [rangeCheck_of_lt a n hsrc]
    rfl
  · rw [rangeCheck_of_le a n hsrc, rangeCheck_of_lt b m (h.resolve_left (Nat.not_lt.2 hsrc))]
    rfl

/-! ### A contract-class completion (R143, R144) -/

/-- The completion with a contract-class code, as one record. -/
theorem complete_contract (s : State) (opc : Byte) (code : ResultCode) (h : code.isContract = true) :
    s.complete opc code = contractDone opc code.value s := by
  have hne : code ≠ .ok := by rintro rfl; cases h
  cases hf : s.status.fault with
  | true =>
    have hstatus : { s.status with fault := true } = s.status := by rw [← hf]
    simp [State.complete, contractDone, State.raiseFault, h, hne, hf, hstatus, BitVec.or_assoc, Ev.cmdDone, Ev.cmdErr]
  | false =>
    simp [State.complete, contractDone, State.raiseFault, h, hne, hf, BitVec.or_assoc, Ev.cmdDone, Ev.cmdErr, Ev.fault]

/-- A command whose first failing check has a contract-class code. -/
theorem runCommand_contract (opc : Byte) (checks : List Check) (e : Execution) (s : State) (code : ResultCode)
    (hfail : firstFailure checks = some code) (hcode : code.isContract = true) :
    runCommand opc checks e s = .next (contractDone opc code.value s) := by
  rw [runCommand_failed _ _ _ _ _ hfail, complete_contract _ _ _ hcode]

/-- A command whose first failing check is a range check (R39). -/
theorem runCommand_eRange (opc : Byte) (checks : List Check) (e : Execution) (s : State)
    (hfail : firstFailure checks = some .eRange) : runCommand opc checks e s = .next (contractDone opc 0x11#8 s) :=
  runCommand_contract opc checks e s .eRange hfail rfl

/-- Settles O23: for each command the checks before its range checks pass, and one of these fails. -/
theorem regionsNeverCrossTheEnd : Obligations.RegionsNeverCrossTheEnd := by
  refine ⟨fun s hhops hdst => ?hdrPack, fun s hrx hsrc => ?hdrUnpack,
    fun s hregion => ⟨?scramble, fun hrx => ?descramble⟩, fun s hlen hnsym hmax hregion => ?rsEncode,
    fun s hrx hnsym hlen hmax hregion => ?rsDecode, fun s hregion => ?hdrEncode, fun s hrx hregion => ?hdrDecode,
    fun s hsize => ⟨fun hregion => ?payEncode, fun hrx hregion => ?payDecode⟩,
    fun s hhops hsize hregion => ?encodeFrame, fun s hrx hlen => ⟨fun hsrc => ?decodeFrame, fun hsrc => ?decodeHeader⟩⟩
  all_goals refine runCommand_eRange _ _ _ s ?_
  case hdrPack =>
    rw [hopsBad_eq_false s.txh hhops, rangeCheck_of_lt s.dst Config.hdrLen hdst]
    rfl
  case hdrUnpack =>
    rw [hazardCheck_of_disabled s hrx, rangeCheck_of_lt s.src Config.hdrLen hsrc]
    rfl
  case scramble => exact firstFailure_ranges _ _ _ _ _ hregion
  case descramble =>
    rw [hazardCheck_of_disabled s hrx]
    exact firstFailure_ranges _ _ _ _ _ hregion
  case rsEncode =>
    rw [rsEncodeParamsBad_eq_false _ _ hlen hnsym hmax]
    exact firstFailure_ranges _ _ _ _ _ hregion
  case rsDecode =>
    rw [hazardCheck_of_disabled s hrx, rsDecodeParamsBad_eq_false _ _ hnsym hlen hmax]
    exact firstFailure_ranges _ _ _ _ _ hregion
  case hdrEncode => exact firstFailure_ranges _ _ _ _ _ hregion
  case hdrDecode =>
    rw [hazardCheck_of_disabled s hrx]
    exact firstFailure_ranges _ _ _ _ _ hregion
  case payEncode =>
    rw [hsize]
    exact firstFailure_ranges _ _ _ _ _ hregion
  case payDecode =>
    rw [hazardCheck_of_disabled s hrx, hsize]
    exact firstFailure_ranges _ _ _ _ _ hregion
  case encodeFrame =>
    rw [hopsBad_eq_false s.txh hhops, hsize]
    exact firstFailure_ranges _ _ _ _ _ hregion
  case decodeFrame =>
    rw [hazardCheck_of_disabled s hrx, headerLength_ok s.len hlen, rangeCheck_of_lt _ _ hsrc]
    rfl
  case decodeHeader =>
    rw [hazardCheck_of_disabled s hrx, headerLength_ok s.len hlen, rangeCheck_of_lt s.src Config.hdrRaw hsrc]
    rfl

/-! ### An unwritten input (R41) -/

/-- A command whose checks pass and whose source region has a byte nothing has written. -/
theorem runCommand_unwritten (opc : Byte) (checks : List Check) (m : Memory) (a n : Nat) (k : List Byte → Execution)
    (s : State) (hread : Memory.readBytes m a n = none) (hpass : firstFailure checks = none) :
    runCommand opc checks (withBytes m a n k) s = .fault .uninitRead :=
  (runCommand_fault _ _ _ _ _).2 ⟨hpass, (withBytes_error _ _ _ _ _).2 (.inl ⟨hread, rfl⟩)⟩

/-- The checks of a command with a source and a destination pass when both regions lie in the buffer. -/
theorem firstFailure_ranges_of_le (a n b m : Nat) (rest : List Check) (hsrc : a + n ≤ 8192) (hdst : b + m ≤ 8192) :
    firstFailure (rangeCheck a n :: rangeCheck b m :: rest) = firstFailure rest := by
  rw [rangeCheck_of_le a n hsrc, rangeCheck_of_le b m hdst]
  rfl

/-- So do those of an RX-safe command, whose destination is also free (R158). -/
theorem firstFailure_ranges_of_free (s : State) (a n m : Nat) (hsrc : a + n ≤ 8192) (hdst : s.dst + m ≤ 8192)
    (hfree : destFree s m) :
    firstFailure [rangeCheck a n, rangeCheck s.dst m, destHazardCheck s s.dst m] = none := by
  rw [firstFailure_ranges_of_le _ _ _ _ _ hsrc hdst, destHazardCheck_of_free s m hfree]
  rfl

/-- DECODE_FRAME stops where its frame decode does, once its checks have passed (R109). -/
theorem exec_decodeFrame_unwritten (s : State) (hrx : s.rxEn = false) (hlen : 64 ≤ s.len) (hsrc : s.src + s.len ≤ 8192)
    (hdecode : decodeFrameAt s.src s.len s.dst s = .error .uninitRead) : exec .decodeFrame s = .fault .uninitRead := by
  refine (runCommand_fault _ _ _ s _).2 ⟨?_, hdecode⟩
  rw [hazardCheck_of_disabled s hrx, headerLength_ok s.len hlen, rangeCheck_of_le _ _ hsrc]
  rfl

/-- PIPE_ADD_BYTE stops on the 64th byte of a frame with a hole in the header (R41, R141). -/
theorem exec_pipeAddByte_unwritten (b : Byte) (s : State) (hrx : s.rxEn = false) (hk : s.status.pipeHdrKnown = false)
    (hcount : s.pipe.count.toNat = 63)
    (hread : Memory.readBytes (Memory.write s.mem (0x1000 + 63) b) 0x1000 64 = none) :
    exec (.pipeAddByte b) s = .fault .uninitRead := by
  have hadd : pipeAdd b s = .error .uninitRead := by
    have hfull : (s.pipe.count + 1#16).toNat = 64 := by
      rw [BitVec.toNat_add, hcount]
      rfl
    refine (pipeAdd_error_iff b s _).2 (.inr ⟨?_, hk, hfull.ge, ?_, rfl⟩)
    · rw [hcount]
      decide
    · rw [pipeStore_mem, hcount]
      exact hread
  refine (runCommand_fault _ _ _ s _).2 ⟨?_, ?_⟩
  · rw [hazardCheck_of_disabled s hrx]
    rfl
  · rw [hadd]

/-- Settles O24: for each command the checks pass, and its first read finds the unwritten byte. -/
theorem unwrittenInputIsUninitRead : Obligations.UnwrittenInputIsUninitRead := by
  refine ⟨fun s a hpend hread => ?bufRd,
    fun s hsrc hread => ⟨fun hrx => ?hdrUnpack, fun hdst hfree => ?hdrEncode⟩,
    fun s hsrc hdst hread => ⟨fun hfree => ?scramble, fun hrx => ?descramble⟩,
    fun s hnsym hsrc hread => ⟨fun hlen hmax hdst hfree => ?rsEncode, fun hrx hlen hmax hdst => ?rsDecode⟩,
    fun s hrx hsrc hread => ⟨fun hdst => ?hdrDecode, fun hlen => ?decodeHeader, fun hlen hregion => ?decodeFrame⟩,
    fun s hsize => ⟨fun hsrc hdst hfree hread => ?payEncode, fun hrx hsrc hdst hread => ?payDecode⟩,
    fun s hhops hsize hsrc hdst hfree hread => ?encodeFrame,
    fun s header h hs ch lfsr hrx hlen hsrc hdst hheader hgood hread => ?framePayload,
    fun s b hrx hk hcount hread => exec_pipeAddByte_unwritten b s hrx hk hcount hread⟩
  case bufRd => exact (hostStep_fault_iff _ s _).2 ⟨a, rfl, (bufRead_error_iff a s _).2 ⟨hpend, hread, rfl⟩⟩
  case decodeFrame =>
    exact exec_decodeFrame_unwritten s hrx hlen hregion ((decodeFrameAt_error_iff _ _ _ _ _).2 ⟨rfl, .inl hread⟩)
  case framePayload =>
    have hsmall : 64 ≤ s.len := (Nat.le_add_right 64 _).trans hlen
    exact exec_decodeFrame_unwritten s hrx hsmall hsrc ((decodeFrameAt_error_iff _ _ _ _ _).2
      ⟨rfl, .inr ⟨header, h, hs, ch, lfsr, hheader, hgood, hlen, decide_eq_true hdst, hread⟩⟩)
  all_goals refine runCommand_unwritten _ _ _ _ _ _ s hread ?_
  case hdrUnpack =>
    rw [hazardCheck_of_disabled s hrx, rangeCheck_of_le s.src Config.hdrLen hsrc]
    rfl
  case hdrEncode => exact firstFailure_ranges_of_free s _ _ _ hsrc hdst hfree
  case scramble => exact firstFailure_ranges_of_free s _ _ _ hsrc hdst hfree
  case descramble =>
    rw [hazardCheck_of_disabled s hrx]
    exact firstFailure_ranges_of_le _ _ _ _ _ hsrc hdst
  case rsEncode =>
    rw [rsEncodeParamsBad_eq_false _ _ hlen hnsym hmax]
    exact firstFailure_ranges_of_free s _ _ _ hsrc hdst hfree
  case rsDecode =>
    rw [hazardCheck_of_disabled s hrx, rsDecodeParamsBad_eq_false _ _ hnsym hlen hmax]
    exact firstFailure_ranges_of_le _ _ _ _ _ hsrc hdst
  case hdrDecode =>
    rw [hazardCheck_of_disabled s hrx]
    exact firstFailure_ranges_of_le _ _ _ _ _ hsrc hdst
  case decodeHeader =>
    rw [hazardCheck_of_disabled s hrx, headerLength_ok s.len hlen, rangeCheck_of_le s.src Config.hdrRaw hsrc]
    rfl
  case payEncode =>
    rw [hsize]
    exact firstFailure_ranges_of_free s _ _ _ hsrc hdst hfree
  case payDecode =>
    rw [hazardCheck_of_disabled s hrx, hsize]
    exact firstFailure_ranges_of_le _ _ _ _ _ hsrc hdst
  case encodeFrame =>
    rw [hopsBad_eq_false s.txh hhops, hsize]
    exact firstFailure_ranges_of_free s _ _ _ hsrc hdst hfree

end Sys2Proof.Machine
end

section
/-! SUPPORT. What every index reads as, and what a host read answers (spec/10_state.md R16, R18 to R35,
spec/20_memory.md R42, R43, spec/70_reset_and_hazards.md R156). -/

namespace Sys2Proof.Machine

/-! ### The words of the registers made of several fields (R20, R22, R23, R25, R30) -/

theorem regWord_ctrl (s : State) : s.regWord .ctrl = (BitVec.ofBool s.rxEn).setWidth 32 := by
  cases h : s.rxEn <;> simp [State.regWord, flagAt, h]

theorem regWord_status (s : State) :
    s.regWord .status
      = (BitVec.ofBool s.status.pipeDone ++ BitVec.ofBool s.status.barkerFound ++ BitVec.ofBool s.status.pipeHdrKnown
          ++ BitVec.ofBool s.status.payloadOk ++ BitVec.ofBool s.status.fault
          ++ BitVec.ofBool s.pending.isSome).setWidth 32 := by
  simp only [State.regWord, State.statusWord, State.busy]
  generalize s.pending.isSome = busy
  obtain ⟨fault, payloadOk, pipeHdrKnown, barkerFound, pipeDone⟩ := s.status
  revert busy fault payloadOk pipeHdrKnown barkerFound pipeDone
  decide

theorem regWord_partFlags (s : State) :
    s.regWord .partFlags = (BitVec.ofBool s.part.oversize ++ BitVec.ofBool s.part.overlong).setWidth 32 := by
  cases h : s.part.oversize <;> cases h' : s.part.overlong <;> simp [State.regWord, PartRegs.flagsWord, flagAt, h, h']

/-- Two bytes above each other in the low half of a word. -/
theorem zero_append_bytes (a b : Byte) : 0#16 ++ a ++ b = (a ++ b).setWidth 32 := by
  rw [BitVec.setWidth_eq_append (by decide), BitVec.append_assoc]

theorem regWord_result (s : State) : s.regWord .result = (s.result.opc ++ s.result.code).setWidth 32 :=
  zero_append_bytes _ _

theorem regWord_faultInfo (s : State) : s.regWord .faultInfo = (s.faultInfo.origin ++ s.faultInfo.code).setWidth 32 :=
  zero_append_bytes _ _

/-- Every register, in the order of the map (R18). -/
def allRegs : List Reg :=
  [.id, .version, .ctrl, .cmd, .status, .result, .event, .irqEn, .faultInfo, .argSrc, .argDst, .argLen, .argNsym,
    .txFrameLen, .txh .dstA, .txh .dstB, .txh .lsrcA, .txh .lsrcB, .txh .srcA, .txh .srcB, .txh .flags, .txh .size,
    .txh .mySeq, .txh .data01, .txh .data23, .rxh .dstA, .rxh .dstB, .rxh .lsrcA, .rxh .lsrcB, .rxh .srcA, .rxh .srcB,
    .rxh .flags, .rxh .size, .rxh .mySeq, .rxh .data01, .rxh .data23, .partBlocks, .partSmallLen, .partLargeLen,
    .partSmallCnt, .partLargeCnt, .partEcc, .partRaw, .partFlags, .blockFail, .corrHdr, .corrPay, .corrRs, .lfsrTx,
    .lfsrRx, .rxState, .cohCount, .winCount, .barkerState, .barkerCount, .sepRemaining, .gain, .bitCount, .shift,
    .pipeCount, .pipeRemaining, .pipeFrameLen, .pipeResult, .cfgCohThresh, .cfgCarrierThreshold, .cfgMaxOffset,
    .cfgBarkerMax, .cfgSepSymbols, .cfgGainSkip]

theorem mem_allRegs (r : Reg) : r ∈ allRegs := by
  cases r
  case txh h => cases h <;> decide
  case rxh h => cases h <;> decide
  all_goals decide

/-- What every implemented index reads as, in the order of the map. -/
def State.readTable (s : State) : List (BitVec 8 × Word) := allRegs.map fun r => (r.index, s.regWord r)

/-- An index reads as its row of the table says. -/
theorem indexWord_of_mem_readTable (s : State) (e : BitVec 8 × Word) (h : e ∈ s.readTable) : s.indexWord e.1 = e.2 := by
  obtain ⟨r, -, rfl⟩ := List.mem_map.1 h
  simp only [State.indexWord, regAt_index]

/-- An index without a row is reserved and reads 0 (R16). -/
theorem indexWord_of_not_mem_readTable (s : State) (i : BitVec 8) (h : ∀ e ∈ s.readTable, e.1 ≠ i) :
    s.indexWord i = 0#32 := by
  unfold State.indexWord
  cases hr : regAt i with
  | none => rfl
  | some r => exact absurd (index_of_regAt i r hr) (h _ (List.mem_map_of_mem (mem_allRegs r)))

/-! ### A host read (R42, R156) -/

/-- The indices that a REG_RD returns truly while a command is pending (R156). -/
theorem readableWhileBusy_iff (i : BitVec 8) :
    readableWhileBusy (regAt i) = true ↔ i ∈ [0x00#8, 0x01#8, 0x02#8, 0x03#8, 0x04#8, 0x06#8, 0x07#8] := by
  constructor
  · intro h
    cases hr : regAt i with
    | none => rw [hr] at h; cases h
    | some r =>
      rw [← index_of_regAt i r hr]
      rw [hr] at h
      cases r with
      | id | version | ctrl | cmd | status | event | irqEn => decide
      | _ => cases h
  · intro h
    simp only [List.mem_cons, List.not_mem_nil, or_false] at h
    obtain rfl | rfl | rfl | rfl | rfl | rfl | rfl := h <;> rfl

/-- A REG_RD that is true answers the index's word and touches nothing else. -/
theorem regRead_true (i : BitVec 8) (s : State) (h : s.pending = none ∨ readableWhileBusy (regAt i) = true) :
    regRead i s = { s with busOut := some (.reg (s.indexWord i)) } := by
  unfold regRead State.busy
  obtain h | h := h <;> simp [h]

/-- Any other REG_RD takes one draw. -/
theorem regRead_drawn (i : BitVec 8) (s : State) (hp : s.pending ≠ none) (h : readableWhileBusy (regAt i) ≠ true) :
    regRead i s = { s with busOut := some (.reg (Config.freeWord s.draws)), draws := s.draws + 1 } := by
  unfold regRead State.busy
  simp [Option.isSome_iff_ne_none.2 hp, h]

theorem bufRead_written (a : BitVec 13) (b : Byte) (s : State) (hp : s.pending = none)
    (hb : Memory.read s.mem a.toNat = some b) : bufRead a s = .ok { s with busOut := some (.buf b) } := by
  simp [bufRead, State.busy, hp, hb]

/-- While a command is pending every BUF_RD takes one draw, of an unwritten byte too (log 12). -/
theorem bufRead_drawn (a : BitVec 13) (s : State) (hp : s.pending ≠ none) :
    bufRead a s = .ok { s with busOut := some (.buf (Config.freeByte s.draws)), draws := s.draws + 1 } := by
  simp [bufRead, State.busy, Option.isSome_iff_ne_none.2 hp]

/-- Settles O54: the statement's map is `State.readTable`, and a read is true or a draw. -/
theorem readsReturnWithoutSideEffect : Obligations.ReadsReturnWithoutSideEffect := by
  unfold Obligations.ReadsReturnWithoutSideEffect
  intro bit header map
  have hmap : ∀ s, map s = s.readTable := fun s => by
    simp only [State.readTable, allRegs, List.map_cons, List.map_nil, regWord_ctrl, regWord_status, regWord_partFlags,
      regWord_result, regWord_faultInfo]
    rfl
  refine ⟨fun s => ?_, fun s i => ⟨fun h => ?_, fun hp hi => ?_⟩, fun s a => ⟨fun hp => ?_, fun b hp hb => ?_⟩⟩
  · rw [hmap]
    exact ⟨indexWord_of_mem_readTable s, indexWord_of_not_mem_readTable s⟩
  · rw [← readableWhileBusy_iff] at h
    rw [hostStep, regRead_true i s h]
  · rw [← readableWhileBusy_iff] at hi
    exact ⟨_, congrArg _ (regRead_drawn i s hp hi)⟩
  · exact ⟨_, by rw [hostStep, bufRead_drawn a s hp]⟩
  · rw [hostStep, bufRead_written a b s hp hb]

end Sys2Proof.Machine
end

section
/-! SUPPORT. The decoder and the encoder against each other: the fields of an encoded word, the opcode map the other
way, and which words the decoder accepts and refuses (spec/30_encoding.md R55, R56, R58). -/

namespace Sys2Proof

/-! ### The fields of a word (R55) -/

/-- The word of every well-formed command agrees with its row of the opcode map. -/
theorem encodedRow (i : Instr) : Laws.EncodedRow.Statement i := by
  cases i with
  | nop => exact Laws.EncodedRow.nop
  | hdrPack => exact Laws.EncodedRow.hdrPack
  | hdrUnpack => exact Laws.EncodedRow.hdrUnpack
  | rawSize => exact Laws.EncodedRow.rawSize
  | scramble => exact Laws.EncodedRow.scramble
  | descramble => exact Laws.EncodedRow.descramble
  | rsEncode => exact Laws.EncodedRow.rsEncode
  | rsDecode => exact Laws.EncodedRow.rsDecode
  | hdrEncode => exact Laws.EncodedRow.hdrEncode
  | hdrDecode => exact Laws.EncodedRow.hdrDecode
  | payEncode => exact Laws.EncodedRow.payEncode
  | payDecode => exact Laws.EncodedRow.payDecode
  | encodeFrame => exact Laws.EncodedRow.encodeFrame
  | decodeFrame => exact Laws.EncodedRow.decodeFrame
  | decodeHeader => exact Laws.EncodedRow.decodeHeader
  | pipeReset => exact Laws.EncodedRow.pipeReset
  | pipeAddByte imm8 => exact Laws.EncodedRow.pipeAddByte imm8
  | barkerReset => exact Laws.EncodedRow.barkerReset
  | barkerStep imm8 => exact Laws.EncodedRow.barkerStep imm8

/-- A word is its three fields one above the other. -/
theorem fields_append (w : Word) : rsvdField w ++ immField w ++ opcField w = w := by
  have hlow : immField w ++ opcField w = w.extractLsb' 0 16 := BitVec.extractLsb'_append_extractLsb'_eq_extractLsb' rfl
  have hall : rsvdField w ++ w.extractLsb' 0 16 = w.extractLsb' 0 32 :=
    BitVec.extractLsb'_append_extractLsb'_eq_extractLsb' rfl
  rw [BitVec.append_assoc, hlow]
  exact hall.trans BitVec.extractLsb'_eq_self

/-! ### The opcode map the other way (R58) -/

/-- The map gives a command for its own OPC only, with the immediate its format carries. -/
theorem commandOf_eq_some_iff (opc imm : Byte) (i : Instr) :
    commandOf opc imm = some i ↔ i.opcode = opc ∧ (i.format = .c ∨ i.imm8 = imm) := by
  constructor
  · intro h
    unfold commandOf at h
    split at h <;> cases h
    all_goals
      rename_i hval
      exact ⟨BitVec.eq_of_toNat_eq hval.symm, by simp [Instr.format, Instr.imm8]⟩
  · rintro ⟨rfl, himm⟩
    cases i with
    | pipeAddByte imm8 | barkerStep imm8 =>
      obtain hc | rfl := himm
      · cases hc
      · rfl
    | _ => rfl

/-- The commands without an immediate, in the order of the map. -/
def plainCommands : List Instr :=
  [.nop, .hdrPack, .hdrUnpack, .rawSize, .scramble, .descramble, .rsEncode, .rsDecode, .hdrEncode, .hdrDecode,
    .payEncode, .payDecode, .encodeFrame, .decodeFrame, .decodeHeader, .pipeReset, .barkerReset]

/-- The format C commands are the plain ones. -/
theorem mem_plainCommands_iff (i : Instr) : i ∈ plainCommands ↔ i.format = .c := by
  cases i <;> simp [plainCommands, Instr.format]

theorem opcode_of_format_ci (i : Instr) (h : i.format = .ci) : i.opcode = 0x51#8 := by
  cases i <;> cases h
  rfl

theorem opcode_of_format_cb (i : Instr) (h : i.format = .cb) : i.opcode = 0x61#8 := by
  cases i <;> cases h
  rfl

/-! ### What the decoder answers (R56) -/

/-- An accepted word has RSVD = 0, a command of the map, and an immediate the format allows. -/
theorem decode_eq_ok_iff_fields (w : Word) (i : Instr) :
    decode w = .ok i
      ↔ rsvdField w = 0#16 ∧ commandOf (opcField w) (immField w) = some i ∧ i.format.immOk (immField w) = true := by
  unfold decode
  by_cases hrsvd : rsvdField w = 0#16
  · cases hcmd : commandOf (opcField w) (immField w) with
    | none => simp [hrsvd]
    | some j =>
      by_cases himm : j.format.immOk (immField w) = true
      · simp only [hrsvd, himm, ne_eq, not_true_eq_false, if_true, if_false, Except.ok.injEq, Option.some.injEq,
          true_and]
        exact ⟨fun hj => ⟨hj, hj ▸ himm⟩, And.left⟩
      · simp only [hrsvd, himm, ne_eq, not_true_eq_false, if_false, reduceCtorEq, Option.some.injEq, true_and,
          false_iff]
        exact fun ⟨hj, hok⟩ => himm (hj ▸ hok)
  · simp [hrsvd]

/-- Where the format allows the immediate field, it is the immediate the map's command carries. -/
theorem imm8_eq_of_immOk (i : Instr) (imm : Byte) (hcarry : i.format = .c ∨ i.imm8 = imm)
    (hok : i.format.immOk imm = true) : i.imm8 = imm := by
  obtain hc | heq := hcarry
  · have hzero : imm = 0#8 := by simpa [hc, Format.immOk] using hok
    rw [hzero]
    cases i with
    | pipeAddByte | barkerStep => cases hc
    | _ => rfl
  · exact heq

/-- The decoder answers exactly the well-formed command whose word it is given. -/
theorem decode_eq_ok_iff (w : Word) (i : Instr) : decode w = .ok i ↔ i.wf = true ∧ encode i = w := by
  rw [decode_eq_ok_iff_fields, commandOf_eq_some_iff]
  constructor
  · rintro ⟨hrsvd, ⟨hopc, hcarry⟩, hok⟩
    have himm := imm8_eq_of_immOk i _ hcarry hok
    refine ⟨by rw [Instr.wf, himm, hok], ?_⟩
    rw [encode, himm, hopc, ← hrsvd, fields_append]
  · rintro ⟨hwf, rfl⟩
    obtain ⟨-, hrsvd, hopc, himm⟩ := encodedRow i hwf
    exact ⟨hrsvd, ⟨hopc.symm, .inr himm.symm⟩, by rw [himm]; exact hwf⟩

/-- A word is legal exactly when RSVD = 0 and its OPC and immediate are those of a row of the map (R55, R58). -/
theorem decode_isOk_iff (w : Word) :
    (∃ i, decode w = .ok i)
      ↔ rsvdField w = 0#16
        ∧ ((opcField w ∈ plainCommands.map Instr.opcode ∧ immField w = 0#8) ∨ opcField w = 0x51#8
          ∨ (opcField w = 0x61#8 ∧ (immField w).extractLsb' 1 7 = 0#7)) := by
  simp only [decode_eq_ok_iff_fields, commandOf_eq_some_iff]
  constructor
  · rintro ⟨i, hrsvd, ⟨hopc, -⟩, hok⟩
    refine ⟨hrsvd, ?_⟩
    rw [← hopc]
    cases hf : i.format with
    | c => exact .inl ⟨List.mem_map_of_mem ((mem_plainCommands_iff i).2 hf), by simpa [hf, Format.immOk] using hok⟩
    | ci => exact .inr (.inl (opcode_of_format_ci i hf))
    | cb => exact .inr (.inr ⟨opcode_of_format_cb i hf, by simpa [hf, Format.immOk] using hok⟩)
  · rintro ⟨hrsvd, ⟨hplain, himm⟩ | hopc | ⟨hopc, himm⟩⟩
    · obtain ⟨i, hi, hopc⟩ := List.mem_map.1 hplain
      have hf := (mem_plainCommands_iff i).1 hi
      exact ⟨i, hrsvd, ⟨hopc, .inl hf⟩, by rw [hf, himm]; rfl⟩
    · exact ⟨.pipeAddByte (immField w), hrsvd, ⟨hopc.symm, .inr rfl⟩, rfl⟩
    · exact ⟨.barkerStep (immField w), hrsvd, ⟨hopc.symm, .inr rfl⟩, by simpa [Instr.format, Format.immOk] using himm⟩

/-- IMM8[7:1] are bits [15:9] of the word. -/
theorem immField_high (w : Word) : (immField w).extractLsb' 1 7 = w.extractLsb' 9 7 := by
  refine BitVec.eq_of_getLsbD_eq fun i hi => ?_
  have hbyte : 1 + i < 8 := by omega
  simp [immField, hi, hbyte, ← Nat.add_assoc]

/-- Outside three rows that exclude each other: outside all of them, or in one with its condition unmet. -/
theorem not_rows_iff {rsvd plain zero ci cb high : Prop} (hplain : plain → ¬ci ∧ ¬cb) (hci : ci → ¬cb) :
    ¬(rsvd ∧ (plain ∧ zero ∨ ci ∨ cb ∧ high))
      ↔ ¬rsvd ∨ (¬plain ∧ ¬ci ∧ ¬cb) ∨ (plain ∧ ¬zero) ∨ (cb ∧ ¬high) := by
  grind

/-- Every other word is refused: the rows of the map exclude each other. -/
theorem decode_isError_iff (w : Word) :
    (∃ e, decode w = .error e)
      ↔ rsvdField w ≠ 0#16
        ∨ (opcField w ∉ plainCommands.map Instr.opcode ∧ opcField w ≠ 0x51#8 ∧ opcField w ≠ 0x61#8)
        ∨ (opcField w ∈ plainCommands.map Instr.opcode ∧ immField w ≠ 0#8)
        ∨ (opcField w = 0x61#8 ∧ w.extractLsb' 9 7 ≠ 0#7) := by
  have hrefused : (∃ e, decode w = .error e) ↔ ¬∃ i, decode w = .ok i := by cases decode w <;> simp
  have hplain : ∀ b ∈ plainCommands.map Instr.opcode, b ≠ 0x51#8 ∧ b ≠ 0x61#8 := by decide
  rw [hrefused, decode_isOk_iff, immField_high]
  exact not_rows_iff (hplain _) fun hci => by rw [hci]; decide

end Sys2Proof

namespace Sys2Proof.Machine

/-- Settles O1: the decoder answers `i` exactly for the word of a well-formed `i`. -/
theorem decodeEncodeAgree : Obligations.DecodeEncodeAgree :=
  ⟨fun i hwf => (decode_eq_ok_iff (encode i) i).2 ⟨hwf, rfl⟩, fun w i => (decode_eq_ok_iff w i).1⟩

/-- Settles O3: each word is the word of its well-formed command. -/
theorem tableWordsDecode : Obligations.TableWordsDecode :=
  ⟨rfl, rfl, rfl, rfl, rfl, rfl, rfl⟩

/-- The command unit completes an illegal word with E_ILLEGAL (R56). -/
theorem cuStep_illegal (s : State) (w : Word) (hpend : s.pending = some w) (hillegal : ∃ e, decode w = .error e) :
    cuStep s = .next (contractDone (opcField w) 0x1F#8 s) := by
  obtain ⟨e, he⟩ := hillegal
  unfold cuStep
  rw [hpend]
  simp only [he]
  rw [complete_contract s _ .eIllegal rfl]
  rfl

/-- Settles O2: the statement's illegal words are those that are not of a row of the map. -/
theorem illegalWordsComplete : Obligations.IllegalWordsComplete := by
  unfold Obligations.IllegalWordsComplete
  intro formatC illegal
  have hrefused : ∀ w : Word, (∃ e, decode w = .error e) ↔ illegal w := decode_isError_iff
  exact ⟨hrefused, fun s w hpend hillegal => cuStep_illegal s w hpend ((hrefused w).2 hillegal)⟩

end Sys2Proof.Machine
end

section
/-! SUPPORT. Who moves in one step of the block, and what a host write answers with and without a command pending
(spec/20_memory.md R42, R50, spec/30_encoding.md R60, R61, spec/70_reset_and_hazards.md R155). -/

namespace Sys2Proof.Machine

/-! ### The schedule (R50, R142) -/

theorem step_of_unscheduled (s : State) (h : s.inputs = []) : step s = cuStep s := by
  unfold step
  rw [h]

theorem step_of_scheduled (s : State) (x : Turn) (rest : List Turn) (h : s.inputs = x :: rest) :
    step s = runTurn x { s with inputs := rest } := by
  unfold step
  rw [h]

/-- A legal pending word runs its command at the command unit's step (R61). -/
theorem cuStep_legal (s : State) (w : Word) (i : Instr) (hpend : s.pending = some w) (hlegal : decode w = .ok i) :
    cuStep s = exec i s := by
  unfold cuStep
  rw [hpend]
  simp only [hlegal]

theorem cuStep_idle (s : State) (h : s.pending = none) : cuStep s = .next s := by
  unfold cuStep
  rw [h]

/-- Settles O4: the schedule names the agent, and the command unit runs the word it finds pending. -/
theorem stepRunsDecodedCommand : Obligations.StepRunsDecodedCommand := by
  refine ⟨fun s => ⟨step_of_unscheduled s, step_of_scheduled s .cu⟩,
    fun s w i hpend hlegal => ⟨fun h => ?_, fun rest h => ?_⟩,
    fun s x => step_of_scheduled s (.host x), fun s w sq => step_of_scheduled s (.window w sq),
    fun s hidle => ⟨fun h => ?_, fun rest h => ?_⟩⟩
  · rw [step_of_unscheduled s h, cuStep_legal s w i hpend hlegal]
  · rw [step_of_scheduled s .cu rest h]
    exact cuStep_legal { s with inputs := rest } w i hpend hlegal
  · rw [step_of_unscheduled s h, cuStep_idle s hidle]
  · rw [step_of_scheduled s .cu rest h]
    exact cuStep_idle { s with inputs := rest } hidle

/-! ### A write while a command is pending (R155) -/

theorem busy_of_pending (s : State) (h : s.pending ≠ none) : s.busy = true := Option.isSome_iff_ne_none.2 h

/-- A bus fault, as one record (R144). -/
theorem busFault_eq (s : State) (code : ResultCode) : s.busFault code = busFaultDone code.value s := by
  cases hf : s.status.fault with
  | true =>
    have hstatus : { s.status with fault := true } = s.status := by rw [← hf]
    simp [State.busFault, State.raiseFault, busFaultDone, hf, hstatus]
  | false => simp [State.busFault, State.raiseFault, busFaultDone, hf, Ev.fault]

/-- The indices of the registers with a write of their own: CTRL, CMD, EVENT and IRQ_EN. -/
def ownWriteIndices : List (BitVec 8) := [0x02#8, 0x03#8, 0x06#8, 0x07#8]

/-- Every other index, implemented or reserved, takes the plain write. -/
theorem regWrite_plain (i : BitVec 8) (v : Word) (s : State) (h : i ∉ ownWriteIndices) :
    regWrite i v s = writePlain (regAt i) v s := by
  have hne : ∀ r : Reg, r.index ∈ ownWriteIndices → regAt i ≠ some r := fun r hr heq =>
    h (index_of_regAt i r heq ▸ hr)
  unfold regWrite
  split
  case h_1 heq => exact absurd heq (hne .ctrl (by decide))
  case h_2 heq => exact absurd heq (hne .cmd (by decide))
  case h_3 heq => exact absurd heq (hne .event (by decide))
  case h_4 heq => exact absurd heq (hne .irqEn (by decide))
  case h_5 => rfl

theorem writePlain_busy (r : Option Reg) (v : Word) (s : State) (h : s.pending ≠ none) :
    writePlain r v s = busFaultDone 0x17#8 s := by
  unfold writePlain
  rw [if_pos (busy_of_pending s h), busFault_eq]
  rfl

theorem bufWrite_busy (a : BitVec 13) (b : Byte) (s : State) (h : s.pending ≠ none) :
    bufWrite a b s = busFaultDone 0x17#8 s := by
  unfold bufWrite
  rw [if_pos (busy_of_pending s h), busFault_eq]
  rfl

theorem writeCmd_busy (v : Word) (s : State) (h : s.pending ≠ none) : writeCmd v s = busFaultDone 0x16#8 s := by
  unfold writeCmd
  rw [if_pos (busy_of_pending s h), busFault_eq]
  rfl

theorem writeCtrl_softReset (v : Word) (s : State) (h : v.getLsbD 1 = true) : writeCtrl v s = s.softReset := by
  unfold writeCtrl
  rw [if_pos h]

theorem writeCtrl_busy (v : Word) (s : State) (hv : v.getLsbD 1 = false) (h : s.pending ≠ none) :
    writeCtrl v s = busFaultDone 0x17#8 s := by
  unfold writeCtrl
  rw [if_neg (ne_true_of_eq_false hv), if_pos (busy_of_pending s h), busFault_eq]
  rfl

/-! ### A write with nothing pending (R16, R18, R60) -/

theorem writeCmd_idle (v : Word) (s : State) (h : s.pending = none) :
    writeCmd v s = { s with cmd := v, pending := some v } := by
  simp [writeCmd, State.busy, h]

/-- The plain store touches only a register with a field to write (R16, R18). -/
theorem store_readOnly (r : Reg) (v : Word) (s : State) (h : r.fieldMask = none) : s.store r v = s := by
  cases r <;> cases h <;> rfl

/-- A configuration register has a field to write (R35). -/
theorem isCfg_eq_false_of_readOnly (r : Reg) (h : r.fieldMask = none) : isCfg r = false := by
  cases r <;> cases h <;> rfl

/-- The indices of the registers with a field to write: IRQ_EN, ARG_*, TXH and CFG_* (R18). -/
theorem index_of_fieldMask (r : Reg) (m : Word) (h : r.fieldMask = some m) :
    r.index ∈ [0x07#8, 0x09#8, 0x0A#8, 0x0B#8, 0x0C#8] ∨ (0x10#8 ≤ r.index ∧ r.index ≤ 0x1A#8)
      ∨ (0x50#8 ≤ r.index ∧ r.index ≤ 0x55#8) := by
  cases r <;> cases h
  case txh hdr => cases hdr <;> decide
  all_goals decide

/-- A write to a reserved or read-only index is ignored (R16). -/
theorem writePlain_ignored (i : BitVec 8) (v : Word) (s : State) (hp : s.pending = none)
    (h : ∀ r, regAt i = some r → r.fieldMask = none) : writePlain (regAt i) v s = s := by
  cases hr : regAt i with
  | none => simp [writePlain, State.busy, hp]
  | some r =>
    have hread := h r hr
    rw [writePlain_accepted r v s hp fun _ => isCfg_eq_false_of_readOnly r hread, store_readOnly r v s hread]

/-- Settles O53: each write by the index it goes to, with a command pending and with none. -/
theorem cmdIssueAndWritesWhileBusy : Obligations.CmdIssueAndWritesWhileBusy := by
  refine ⟨fun s v hp => ⟨?issue, rfl⟩,
    fun s v hp => ⟨?event, ?irqEn, fun hv => ?softReset, ?cmd, fun i hi => ?plain, fun hv => ?ctrl, fun a b => ?buf⟩,
    fun s v i hp hown htxh hcfg => ?ignored⟩
  case issue => exact congrArg _ (writeCmd_idle v s hp)
  case event => rfl
  case irqEn => rfl
  case softReset => exact ⟨s.softReset, congrArg _ (writeCtrl_softReset v s hv), rfl, rfl⟩
  case cmd => exact congrArg _ (writeCmd_busy v s hp)
  case plain => exact congrArg _ ((regWrite_plain i v s hi).trans (writePlain_busy _ v s hp))
  case ctrl => exact congrArg _ (writeCtrl_busy v s hv hp)
  case buf => exact congrArg _ (bufWrite_busy a b s hp)
  case ignored =>
    have hplain : i ∉ ownWriteIndices := fun h => hown ((by decide : ∀ j ∈ ownWriteIndices, j ∈ _) i h)
    refine congrArg _ ((regWrite_plain i v s hplain).trans (writePlain_ignored i v s hp fun r hr => ?_))
    obtain rfl := index_of_regAt i r hr
    cases hm : r.fieldMask with
    | none => rfl
    | some m =>
      obtain hfield | hfield | hfield := index_of_fieldMask r m hm
      · exact absurd ((by decide : ∀ j ∈ [0x07#8, 0x09#8, 0x0A#8, 0x0B#8, 0x0C#8], j ∈ _) _ hfield) hown
      · exact absurd hfield htxh
      · exact absurd hfield hcfg

end Sys2Proof.Machine
end

section
/-! SUPPORT. Which lengths are refused, the parameter checks one by one, and the late checks of the frame decode
(spec/42_rs_codec.md R87, spec/30_encoding.md R62, spec/44_frame_engine.md R109). -/

namespace Sys2Proof.Machine

/-! ### The refused lengths (R84, R87) -/

/-- A small block has at most 205 bytes, and 205 only where every block has. -/
theorem smallLen_bounds (len : Nat) (h : 0 < len) :
    len / ((len + 204) / 205) ≤ 205
      ∧ (len / ((len + 204) / 205) = 205 ↔ 205 ∣ len)
      ∧ (205 ∣ len → len % ((len + 204) / 205) = 0) := by
  obtain ⟨n, hn⟩ : ∃ n, (len + 204) / 205 = n := ⟨_, rfl⟩
  have hpos : 0 < n := by omega
  have hle : len / n ≤ 205 := Nat.div_le_of_le_mul (by omega)
  have hblocks : 205 ∣ len ↔ len = n * 205 := by omega
  rw [hn, hblocks]
  refine ⟨hle, ⟨fun hq => ?_, fun hlen => ?_⟩, fun hlen => ?_⟩
  · have hdiv := Nat.div_mul_le_self len n
    rw [hq] at hdiv
    omega
  · rw [hlen, Nat.mul_div_cancel_left _ hpos]
  · rw [hlen, Nat.mul_mod_right]

/-- A length is overlong exactly when all its blocks have 205 bytes: with 51 parity bytes they pass the largest codeword
by one, and a shorter block does not. -/
theorem overlong_iff_dvd (len : Nat) : overlong len = true ↔ 0 < len ∧ 205 ∣ len := by
  obtain rfl | hpos := Nat.eq_zero_or_pos len
  · decide
  · obtain ⟨hle, hfull, heven⟩ := smallLen_bounds len hpos
    simp only [overlong, partition_of_pos len hpos, Config.rsNMax, Bool.and_eq_true, decide_eq_true_eq]
    rw [← hfull] at heven ⊢
    split <;> omega

theorem sizeRefused_eq_true_iff (len : Nat) : sizeRefused len = true ↔ 1023 < len ∨ overlong len = true := by
  have hover : oversize len = true ↔ 1023 < len := decide_eq_true_iff
  rw [sizeRefused, Bool.or_eq_true, hover]

/-- The refused lengths: above 1023, or one of the four overlong ones below (R87). -/
theorem sizeRefused_iff (len : Nat) : sizeRefused len = true ↔ 1023 < len ∨ len ∈ [205, 410, 615, 820] := by
  simp only [sizeRefused_eq_true_iff, overlong_iff_dvd, List.mem_cons, List.not_mem_nil, or_false]
  omega

/-! ### The parameter checks that fail (R62) -/

theorem hopsBad_eq_true (h : HeaderRegs) (hlt : h.hops.toNat < h.hopsRem.toNat) : h.hopsBad = true :=
  decide_eq_true hlt

theorem rsEncodeParamsBad_eq_true (k nsym : Nat) (h : k = 0 ∨ nsym = 0 ∨ 255 < k + nsym) :
    rsEncodeParamsBad k nsym = true := by
  have hmax : Config.rsNMax = 255 := rfl
  simp only [rsEncodeParamsBad, Bool.not_eq_true', Bool.and_eq_false_iff, decide_eq_false_iff_not]
  omega

theorem rsDecodeParamsBad_eq_true (n nsym : Nat) (h : nsym = 0 ∨ n ≤ nsym ∨ 255 < n) :
    rsDecodeParamsBad n nsym = true := by
  have hmax : Config.rsNMax = 255 := rfl
  simp only [rsDecodeParamsBad, Bool.not_eq_true', Bool.and_eq_false_iff, decide_eq_false_iff_not]
  omega

theorem headerLength_short (n : Nat) (h : n < 64) : decide (n < Config.hdrRaw) = true := decide_eq_true h

/-! ### The late checks of DECODE_FRAME (R109) -/

/-- A frame whose header is accepted and that is shorter than its header and payload gives E_LENGTH. -/
theorem decodeFrameAt_short (src n dst : Nat) (s : State) (header : List Byte) (h : HeaderRegs) (hs : List Byte)
    (ch : Nat) (lfsr : BitVec 9) (hread : Memory.readBytes s.mem src 64 = some header)
    (hgood : hdrCheck header = .good h hs ch lfsr) (hlen : n < 64 + rawSize h.size.toNat) :
    decodeFrameAt src n dst s = .ok (.eLength, s) := by
  have hshort : n < Config.hdrRaw + rawSize h.size.toNat := hlen
  unfold decodeFrameAt
  rw [withBytes_some _ _ Config.hdrRaw _ _ hread]
  simp only [hgood, if_pos hshort]

/-- One that is long enough and whose payload destination crosses the end of the buffer gives E_RANGE. -/
theorem decodeFrameAt_range (src n dst : Nat) (s : State) (header : List Byte) (h : HeaderRegs) (hs : List Byte)
    (ch : Nat) (lfsr : BitVec 9) (hread : Memory.readBytes s.mem src 64 = some header)
    (hgood : hdrCheck header = .good h hs ch lfsr) (hlen : 64 + rawSize h.size.toNat ≤ n)
    (hdst : 8192 < dst + h.size.toNat) : decodeFrameAt src n dst s = .ok (.eRange, s) := by
  have hlong : ¬n < Config.hdrRaw + rawSize h.size.toNat := Nat.not_lt.2 hlen
  have hcross : regionOk dst h.size.toNat = false := decide_eq_false (Nat.not_le.2 hdst)
  unfold decodeFrameAt
  rw [withBytes_some _ _ Config.hdrRaw _ _ hread]
  simp only [hgood, if_neg hlong, hcross, Bool.not_false, if_true]

/-- DECODE_FRAME completes with the late check's code, once its early checks have passed. -/
theorem exec_decodeFrame_late (s : State) (code : ResultCode) (hrx : s.rxEn = false) (hlen : 64 ≤ s.len)
    (hsrc : s.src + s.len ≤ 8192) (hdecode : decodeFrameAt s.src s.len s.dst s = .ok (code, s))
    (hcode : code.isContract = true) : exec .decodeFrame s = .next (contractDone 0x41#8 code.value s) := by
  rw [← complete_contract s _ code hcode]
  refine runCommand_executed _ _ _ s s code ?_ hdecode
  rw [hazardCheck_of_disabled s hrx, headerLength_ok s.len hlen, rangeCheck_of_le _ _ hsrc]
  rfl

/-- Settles O22: for each command the checks before its parameter check pass, and that one fails; the late checks of
DECODE_FRAME are the frame decode's answers. -/
theorem parameterAndLateChecks : Obligations.ParameterAndLateChecks := by
  refine ⟨sizeRefused_iff, fun s hhops => ⟨?hdrPack, ?frameHops⟩, fun s hhops hsize => ?frameSize,
    fun s hsize => ⟨?payEncode, fun hrx => ?payDecode⟩, fun s hparams => ?rsEncode, fun s hrx hparams => ?rsDecode,
    fun s hrx hlen => ⟨?decodeFrame, ?decodeHeader⟩,
    fun s header h hs ch lfsr hrx hlen hsrc hread hgood => ⟨fun hshort => ?short, fun hlong hdst => ?range⟩⟩
  case short =>
    exact exec_decodeFrame_late s .eLength hrx hlen hsrc
      (decodeFrameAt_short _ _ _ s header h hs ch lfsr hread hgood hshort) rfl
  case range =>
    exact exec_decodeFrame_late s .eRange hrx hlen hsrc
      (decodeFrameAt_range _ _ _ s header h hs ch lfsr hread hgood hlong hdst) rfl
  case hdrPack | frameHops =>
    refine runCommand_contract _ _ _ s .eHops ?_ rfl
    rw [hopsBad_eq_true s.txh hhops]
    rfl
  case frameSize =>
    refine runCommand_contract _ _ _ s .eSize ?_ rfl
    rw [hopsBad_eq_false s.txh hhops, (sizeRefused_eq_true_iff _).2 hsize]
    rfl
  case payEncode =>
    refine runCommand_contract _ _ _ s .eSize ?_ rfl
    rw [(sizeRefused_eq_true_iff _).2 hsize]
    rfl
  case payDecode =>
    refine runCommand_contract _ _ _ s .eSize ?_ rfl
    rw [hazardCheck_of_disabled s hrx, (sizeRefused_eq_true_iff _).2 hsize]
    rfl
  case rsEncode =>
    refine runCommand_contract _ _ _ s .eRsParam ?_ rfl
    rw [rsEncodeParamsBad_eq_true _ _ hparams]
    rfl
  case rsDecode =>
    refine runCommand_contract _ _ _ s .eRsParam ?_ rfl
    rw [hazardCheck_of_disabled s hrx, rsDecodeParamsBad_eq_true _ _ hparams]
    rfl
  case decodeFrame | decodeHeader =>
    refine runCommand_contract _ _ _ s .eLength ?_ rfl
    rw [hazardCheck_of_disabled s hrx, headerLength_short s.len hlen]
    rfl

end Sys2Proof.Machine
end

section
/-! SUPPORT. What a command can do, said once: the state every command completes from, as one record per command, and
from it the buffer and the registers each command leaves alone (spec/30_encoding.md R61, R63). -/

namespace Sys2Proof.Machine

/-! ### The state a command completes from (R63) -/

/-- The buffer with bytes stored at the start of the command's output region (R63). -/
def State.stored (s : State) (i : Instr) (bytes : List Byte) : Memory :=
  Memory.writeBytes s.mem (storeRegion i s).1 bytes

/-- What a command writes before it completes, in terms of the state it starts in (R63). A failed check, a failed header
or codeword, a late check and NOP write nothing. -/
inductive Effect (s : State) : Instr → State → Prop
  /-- Nothing is written. -/
  | unchanged (i : Instr) : Effect s i s
  /-- Only the output region: HDR_PACK, RS_ENCODE, HDR_ENCODE, PAY_ENCODE. -/
  | store (i : Instr) (bytes : List Byte) (hlen : bytes.length ≤ (storeRegion i s).2) :
      Effect s i { s with mem := s.stored i bytes }
  | hdrUnpack (h : HeaderRegs) : Effect s .hdrUnpack { s with rxh := h }
  | rawSize (p : PartRegs) : Effect s .rawSize { s with part := p }
  | scramble (bytes : List Byte) (lfsr : BitVec 9) (hlen : bytes.length ≤ s.len) :
      Effect s .scramble { s with mem := s.stored .scramble bytes, lfsrTx := lfsr }
  | descramble (bytes : List Byte) (lfsr : BitVec 9) (hlen : bytes.length ≤ s.len) :
      Effect s .descramble { s with mem := s.stored .descramble bytes, lfsrRx := lfsr }
  | rsDecode (bytes : List Byte) (corr : BitVec 8) (hlen : bytes.length ≤ s.len - s.nsym) :
      Effect s .rsDecode { s with mem := s.stored .rsDecode bytes, codec := { s.codec with corrRs := corr } }
  | hdrDecode (bytes : List Byte) (corr : BitVec 8) (hlen : bytes.length ≤ Config.hdrLen) :
      Effect s .hdrDecode { s with mem := s.stored .hdrDecode bytes, codec := { s.codec with corrHdr := corr } }
  | payDecode (bytes : List Byte) (r : PayResult) (hlen : bytes.length ≤ s.len) :
      Effect s .payDecode { s.setPayResult s.len r with mem := s.stored .payDecode bytes }
  | encodeFrame (bytes : List Byte) (n : BitVec 16) (lfsr : BitVec 9)
      (hlen : bytes.length ≤ Config.hdrRaw + rawSize s.txh.size.toNat) :
      Effect s .encodeFrame { s with mem := s.stored .encodeFrame bytes, txFrameLen := n, lfsrTx := lfsr }
  | decodeFrame (h : HeaderRegs) (hs : List Byte) (ch : Nat) (r : PayResult) (hlen : h.size.toNat = sourceFrameLen s) :
      Effect s .decodeFrame (s.setFrameResult s.dst h hs ch r)
  | decodeHeader (h : HeaderRegs) (p : PartRegs) (corr : BitVec 8) (lfsr : BitVec 9) :
      Effect s .decodeHeader
        { s with rxh := h, part := p, codec := { s.codec with corrHdr := corr }, lfsrRx := lfsr }
  | pipeReset (pipe : PipeRegs) (known done : Bool) :
      Effect s .pipeReset { s with pipe := pipe, status := { s.status with pipeHdrKnown := known, pipeDone := done } }
  | pipeAddByte (b : Byte) (pipe : PipeRegs) (known done : Bool) :
      Effect s (.pipeAddByte b)
        { s with
          mem := s.stored (.pipeAddByte b) [b]
          pipe := pipe
          status := { s.status with pipeHdrKnown := known, pipeDone := done } }
  | barkerReset (k : BitVec 5) (found : Bool) :
      Effect s .barkerReset
        { s with rx := { s.rx with barkerState := k }, status := { s.status with barkerFound := found } }
  | barkerStep (b : Byte) (k : BitVec 5) (found : Bool) :
      Effect s (.barkerStep b)
        { s with rx := { s.rx with barkerState := k }, status := { s.status with barkerFound := found } }

/-- Whatever the execution answers is an effect of the command. -/
def HasEffect (s : State) (i : Instr) (e : Execution) : Prop := ∀ code s', e = .ok (code, s') → Effect s i s'

theorem hasEffect_ok (s s' : State) (i : Instr) (code : ResultCode) (h : Effect s i s') :
    HasEffect s i (.ok (code, s')) := by
  rintro _ _ ⟨⟩
  exact h

theorem hasEffect_withBytes (s : State) (i : Instr) (m : Memory) (a n : Nat) (k : List Byte → Execution)
    (hk : ∀ bytes : List Byte, bytes.length = n → HasEffect s i (k bytes)) : HasEffect s i (withBytes m a n k) := by
  intro code s' h
  obtain ⟨bytes, hread, hbytes⟩ := (withBytes_ok _ _ _ _ _).1 h
  exact hk bytes (readBytes_length _ _ _ _ hread) code s' hbytes

theorem hasEffect_withPacked (s : State) (i : Instr) (k : List Byte → Execution)
    (hk : HasEffect s i (k (packBytes s.txh))) : HasEffect s i (withPacked s k) := by
  intro code s' h
  obtain ⟨-, heq⟩ | ⟨-, hpacked⟩ := (withPacked_ok _ _ _).1 h
  · cases heq
    exact .unchanged i
  · exact hk code s' hpacked

/-- A frame decode writes nothing, or the result set of the header at the source (R109). -/
theorem hasEffect_decodeFrameAt (s : State) : HasEffect s .decodeFrame (decodeFrameAt s.src s.len s.dst s) := by
  intro code s' h
  obtain ⟨rfl, -⟩ | ⟨-, header, hdr, hs, ch, lfsr, wire, hread, hgood, -, -, -, rfl⟩ := decodeFrameAt_ok _ _ _ _ _ _ h
  · exact .unchanged _
  · exact .decodeFrame hdr hs ch _ (by simp only [sourceFrameLen, hread, hgood])

/-- The end of a pipe byte writes the pipe registers and its two flags. -/
theorem pipeFinish_effect (s : State) (r f : Int) :
    ∃ pipe known done, (pipeFinish s r f).state
      = { s with pipe := pipe, status := { s.status with pipeHdrKnown := known, pipeDone := done } } := by
  unfold pipeFinish
  split
  · exact ⟨_, _, _, rfl⟩
  · exact ⟨_, _, _, rfl⟩

/-- A pipe byte is stored in FRAME_RX at the count; else the pipe writes its own registers and flags (R136). -/
theorem effect_pipeAdd (b : Byte) (s : State) (out : PipeOut) (h : pipeAdd b s = .ok out) :
    Effect s (.pipeAddByte b) out.state := by
  obtain ⟨-, ⟨-, rfl⟩ | ⟨-, -, rfl⟩ | ⟨-, -, header, -, hheader⟩⟩ := pipeAdd_ok b s out h
  case inl =>
    obtain ⟨pipe, known, done, heq⟩ := pipeFinish_effect
      { s.pipeStore b with pipe := { (s.pipeStore b).pipe with remaining := s.pipe.remaining - 1#16 } }
      (s.pipe.remaining - 1#16).toNat s.pipe.frameLen.toNat
    rw [heq]
    exact .pipeAddByte b pipe known done
  case inr.inl =>
    obtain ⟨pipe, known, done, heq⟩ := pipeFinish_effect (s.pipeStore b)
      ((Config.hdrRaw : Int) - (s.pipe.count + 1#16).toNat) 0
    rw [heq]
    exact .pipeAddByte b pipe known done
  case inr.inr =>
    obtain ⟨-, rfl⟩ | ⟨-, rfl⟩ | ⟨hdr, hs, ch, lfsr, -, rfl⟩ := hheader
    · exact .pipeAddByte b _ _ _
    · exact .pipeAddByte b _ _ _
    · generalize hs2 : ({ s.pipeStore b with status := _, pipe := _ } : State) = s2
      obtain ⟨pipe, known, done, heq⟩ := pipeFinish_effect s2 _ _
      rw [heq, ← hs2]
      exact .pipeAddByte b pipe known done

/-- A command completes from one of its effects: what it executed, or nothing where a check failed. -/
theorem effect_of_runCommand (i : Instr) (checks : List Check) (e : Execution) (s t : State)
    (ht : runCommand i.opcode checks e s = .next t) (he : HasEffect s i e) :
    ∃ code s', Effect s i s' ∧ t = s'.complete i.opcode code := by
  obtain ⟨code, -, rfl⟩ | ⟨-, code, s', hok, rfl⟩ := (runCommand_next _ _ _ _ _).1 ht
  · exact ⟨code, s, .unchanged i, rfl⟩
  · exact ⟨code, s', he code s' hok, rfl⟩

/-- Every command that answers a next state completes from one of its effects (R61, R63). -/
theorem exec_effect (i : Instr) (s t : State) (ht : exec i s = .next t) :
    ∃ code s', Effect s i s' ∧ t = s'.complete i.opcode code := by
  unfold exec execPipeReset at ht
  cases i
  all_goals refine effect_of_runCommand _ _ _ s t ht ?_
  case nop => exact hasEffect_ok _ _ _ _ (.unchanged _)
  case hdrPack =>
    refine hasEffect_withPacked _ _ _ (hasEffect_ok _ _ _ _ ?_)
    exact .store _ _ (packBytes_length _).le
  case hdrUnpack => exact hasEffect_withBytes _ _ _ _ _ _ fun input _ => hasEffect_ok _ _ _ _ (.hdrUnpack _)
  case rawSize => exact hasEffect_ok _ _ _ _ (.rawSize _)
  case scramble =>
    refine hasEffect_withBytes _ _ _ _ _ _ fun input hlen => hasEffect_ok _ _ _ _ ?_
    exact .scramble _ _ ((scramble_length input).trans hlen).le
  case descramble =>
    refine hasEffect_withBytes _ _ _ _ _ _ fun input hlen => hasEffect_ok _ _ _ _ ?_
    exact .descramble _ _ ((descramble_length input).trans hlen).le
  case rsEncode =>
    refine hasEffect_withBytes _ _ _ _ _ _ fun input hlen => hasEffect_ok _ _ _ _ ?_
    exact .store _ _ (by rw [rsEnc_length, hlen]; rfl)
  case rsDecode =>
    refine hasEffect_withBytes _ _ _ _ _ _ fun input hlen => ?_
    split
    · rename_i d c hd
      exact hasEffect_ok _ _ _ _ (.rsDecode d _ (hlen ▸ rsDec_ok_length_le _ _ _ _ hd))
    · exact hasEffect_ok _ _ _ _ (.unchanged _)
  case hdrEncode =>
    refine hasEffect_withBytes _ _ _ _ _ _ fun input hlen => hasEffect_ok _ _ _ _ ?_
    exact .store _ _ (by rw [hdrEnc, rsEnc_length, hlen]; rfl)
  case hdrDecode =>
    refine hasEffect_withBytes _ _ _ _ _ _ fun input hlen => ?_
    split
    · rename_i d c hd
      have hmessage := rsDec_ok_length_le _ _ _ _ hd
      rw [hlen] at hmessage
      exact hasEffect_ok _ _ _ _ (.hdrDecode d _ hmessage)
    · exact hasEffect_ok _ _ _ _ (.unchanged _)
  case payEncode =>
    refine hasEffect_withBytes _ _ _ _ _ _ fun input hlen => hasEffect_ok _ _ _ _ ?_
    have hout : (payEnc input).length ≤ rawSize s.len := hlen ▸ payEnc_length_le input
    exact .store _ _ hout
  case payDecode =>
    refine hasEffect_withBytes _ _ _ _ _ _ fun input _ => hasEffect_ok _ _ _ _ ?_
    exact .payDecode _ _ (payDec_data_length_le _ _ _)
  case encodeFrame =>
    refine hasEffect_withBytes _ _ _ _ _ _ fun payload hlen => hasEffect_withPacked _ _ _ ?_
    have hstream : (frameStream (packBytes s.txh) payload).1.length = Config.hdrLen + s.txh.size.toNat := by
      simp [frameStream, hlen, Config.hdrLen]
    generalize frameStream (packBytes s.txh) payload = out at hstream ⊢
    exact hasEffect_ok _ _ _ _ (.encodeFrame _ _ _ (frameOf_length_le _ _ hstream))
  case decodeFrame => exact hasEffect_decodeFrameAt s
  case decodeHeader =>
    refine hasEffect_withBytes _ _ _ _ _ _ fun header _ => ?_
    split
    · exact hasEffect_ok _ _ _ _ (.unchanged _)
    · exact hasEffect_ok _ _ _ _ (.unchanged _)
    · exact hasEffect_ok _ _ _ _ (.decodeHeader _ _ _ _)
  case pipeReset => exact hasEffect_ok _ _ _ _ (.pipeReset _ _ _)
  case pipeAddByte b =>
    intro code s' hs'
    split at hs'
    · cases hs'
    · rename_i out hout
      cases hs'
      exact effect_pipeAdd b s out hout
  case barkerReset => exact hasEffect_ok _ _ _ _ (.barkerReset _ _)
  case barkerStep b => exact hasEffect_ok _ _ _ _ (.barkerStep b _ _)

/-! ### The buffer (R44, R63) -/

/-- Every effect stores into the output region and nowhere else. -/
theorem effect_mem (s s' : State) (i : Instr) (h : Effect s i s') :
    ∃ bytes : List Byte, bytes.length ≤ (storeRegion i s).2 ∧ s'.mem = s.stored i bytes := by
  cases h with
  | unchanged | hdrUnpack | rawSize | decodeHeader | pipeReset | barkerReset | barkerStep =>
    exact ⟨[], Nat.zero_le _, rfl⟩
  | store i bytes hlen => exact ⟨bytes, hlen, rfl⟩
  | scramble bytes _ hlen | descramble bytes _ hlen | rsDecode bytes _ hlen | hdrDecode bytes _ hlen
  | payDecode bytes _ hlen => exact ⟨bytes, hlen, rfl⟩
  | encodeFrame bytes _ _ hlen => exact ⟨bytes, hlen, rfl⟩
  | decodeFrame h hs ch r hlen => exact ⟨_, (List.length_take_le ..).trans hlen.le, rfl⟩
  | pipeAddByte b => exact ⟨[b], Nat.le_refl 1, rfl⟩

/-- Settles O25: the command's effect stores in its output region, and the completion stores nothing. -/
theorem commandMemoryFrame : Obligations.CommandMemoryFrame := by
  intro i s t ht a houtside
  obtain ⟨code, s', heffect, rfl⟩ := exec_effect i s t ht
  obtain ⟨bytes, hlen, hmem⟩ := effect_mem s s' i heffect
  rw [complete_mem, hmem]
  refine read_writeBytes_outside _ _ _ _ ?_
  unfold outsideRegion at houtside
  omega

end Sys2Proof.Machine
end

section
/-! SUPPORT. The registers a command leaves alone: what each effect keeps, and what the completion adds
(spec/30_encoding.md R61, R63, spec/60_exceptions.md R143, R144). -/

namespace Sys2Proof.Machine

/-! ### What an effect keeps (R63) -/

/-- The registers no command writes while it executes; RESULT and the pending latch are the completion's. -/
def SameControl (s s' : State) : Prop :=
  (s'.args = s.args ∧ s'.txh = s.txh ∧ s'.rxEn = s.rxEn ∧ s'.cmd = s.cmd ∧ s'.irqEn = s.irqEn ∧ s'.cfg = s.cfg
      ∧ s'.prev = s.prev ∧ s'.rxPos = s.rxPos ∧ s'.inputs = s.inputs ∧ s'.busOut = s.busOut)
    ∧ s'.event = s.event ∧ s'.status.fault = s.status.fault ∧ s'.faultInfo = s.faultInfo

theorem effect_control (s s' : State) (i : Instr) (h : Effect s i s') : SameControl s s' := by
  cases h <;> exact ⟨⟨rfl, rfl, rfl, rfl, rfl, rfl, rfl, rfl, rfl, rfl⟩, rfl, rfl, rfl⟩

theorem effect_rxh (s s' : State) (i : Instr) (h : Effect s i s')
    (hi : i ∉ [.hdrUnpack, .decodeFrame, .decodeHeader]) : s'.rxh = s.rxh := by
  cases h with
  | hdrUnpack | decodeFrame | decodeHeader => exact absurd hi (by decide)
  | _ => rfl

theorem effect_part (s s' : State) (i : Instr) (h : Effect s i s')
    (hi : i ∉ [.rawSize, .payDecode, .decodeFrame, .decodeHeader]) : s'.part = s.part := by
  cases h with
  | rawSize | payDecode | decodeFrame | decodeHeader => exact absurd hi (by decide)
  | _ => rfl

theorem effect_payload (s s' : State) (i : Instr) (h : Effect s i s') (hi : i ∉ [.payDecode, .decodeFrame]) :
    s'.codec.blockFail = s.codec.blockFail ∧ s'.codec.corrPay = s.codec.corrPay
      ∧ s'.status.payloadOk = s.status.payloadOk ∧ s'.draws = s.draws := by
  cases h with
  | payDecode | decodeFrame => exact absurd hi (by decide)
  | _ => exact ⟨rfl, rfl, rfl, rfl⟩

theorem effect_corrHdr (s s' : State) (i : Instr) (h : Effect s i s')
    (hi : i ∉ [.hdrDecode, .decodeFrame, .decodeHeader]) : s'.codec.corrHdr = s.codec.corrHdr := by
  cases h with
  | hdrDecode | decodeFrame | decodeHeader => exact absurd hi (by decide)
  | _ => rfl

theorem effect_corrRs (s s' : State) (i : Instr) (h : Effect s i s') (hi : i ≠ .rsDecode) :
    s'.codec.corrRs = s.codec.corrRs := by
  cases h with
  | rsDecode => exact absurd rfl hi
  | _ => rfl

theorem effect_txFrameLen (s s' : State) (i : Instr) (h : Effect s i s') (hi : i ≠ .encodeFrame) :
    s'.txFrameLen = s.txFrameLen := by
  cases h with
  | encodeFrame => exact absurd rfl hi
  | _ => rfl

theorem effect_lfsrTx (s s' : State) (i : Instr) (h : Effect s i s') (hi : i ∉ [.scramble, .encodeFrame]) :
    s'.lfsrTx = s.lfsrTx := by
  cases h with
  | scramble | encodeFrame => exact absurd hi (by decide)
  | _ => rfl

theorem effect_lfsrRx (s s' : State) (i : Instr) (h : Effect s i s')
    (hi : i ∉ [.descramble, .decodeFrame, .decodeHeader]) : s'.lfsrRx = s.lfsrRx := by
  cases h with
  | descramble | decodeFrame | decodeHeader => exact absurd hi (by decide)
  | _ => rfl

theorem effect_pipe (s s' : State) (i : Instr) (h : Effect s i s') (hi : i ≠ .pipeReset ∧ ∀ b, i ≠ .pipeAddByte b) :
    s'.pipe = s.pipe ∧ s'.status.pipeHdrKnown = s.status.pipeHdrKnown ∧ s'.status.pipeDone = s.status.pipeDone := by
  cases h with
  | pipeReset => exact absurd rfl hi.1
  | pipeAddByte b => exact absurd rfl (hi.2 b)
  | _ => exact ⟨rfl, rfl, rfl⟩

theorem effect_barker (s s' : State) (i : Instr) (h : Effect s i s')
    (hi : i ≠ .barkerReset ∧ ∀ b, i ≠ .barkerStep b) :
    s'.rx = s.rx ∧ s'.status.barkerFound = s.status.barkerFound := by
  cases h with
  | barkerReset => exact absurd rfl hi.1
  | barkerStep b => exact absurd rfl (hi.2 b)
  | _ => exact ⟨rfl, rfl⟩

/-- Of the receive registers only BARKER_STATE is a command's (R130, R131). -/
theorem effect_rx (s s' : State) (i : Instr) (h : Effect s i s') :
    { s'.rx with barkerState := s.rx.barkerState } = s.rx := by
  cases h <;> rfl

/-! ### What the completion adds (R143, R144) -/

/-- A code is contract-class exactly from 0x10 on (R143). -/
theorem isContract_iff (c : ResultCode) : c.isContract = true ↔ 0x10 ≤ c.value.toNat := by
  cases c <;> decide

/-- Setting bits clears none. -/
theorem event_or_and_self (e raised : BitVec 11) : (e ||| raised) &&& e = e := by
  ext i hi
  simp only [BitVec.getElem_and, BitVec.getElem_or]
  cases e[i] <;> simp

/-- The completion only sets events, and only CMD_DONE, CMD_ERR and FAULT (R24). -/
theorem complete_event_sets (s : State) (o : Byte) (c : ResultCode) :
    ∃ raised : BitVec 11, raised &&& 0x3FC#11 = 0#11 ∧ (s.complete o c).event = s.event ||| raised := by
  refine ⟨Ev.cmdDone ||| (if c = .ok then 0#11 else Ev.cmdErr)
    ||| (if c.isContract && !s.status.fault then Ev.fault else 0#11), ?_, ?_⟩
  · split <;> split <;> decide
  · rw [complete_event]
    simp only [BitVec.or_assoc]

/-- A recorded fault stays (R25). -/
theorem complete_keeps_fault (s : State) (o : Byte) (c : ResultCode) (h : s.status.fault = true) :
    (s.complete o c).status.fault = true ∧ (s.complete o c).faultInfo = s.faultInfo := by
  simp [complete_status_fault, complete_faultInfo, h]

/-- A code below 0x10 records no fault (R143). -/
theorem complete_no_fault (s : State) (o : Byte) (c : ResultCode) (h : c.value.toNat < 0x10) :
    (s.complete o c).status.fault = s.status.fault ∧ (s.complete o c).faultInfo = s.faultInfo := by
  have hc : c.isContract = false := by
    rw [Bool.eq_false_iff, ne_eq, isContract_iff]
    omega
  simp [complete_status_fault, complete_faultInfo, hc]

/-- Settles O26: the command's effect keeps what R63 does not name for it, and the completion writes RESULT, the pending
latch, EVENT and the fault registers only. -/
theorem commandRegisterFrame : Obligations.CommandRegisterFrame := by
  intro i s t ht
  obtain ⟨code, s', h, rfl⟩ := exec_effect i s t ht
  obtain ⟨hcontrol, hevent, hfault, hinfo⟩ := effect_control s s' i h
  obtain ⟨raised, hraised, hcomplete⟩ := complete_event_sets s' i.opcode code
  simp only [complete_args, complete_txh, complete_rxEn, complete_cmd, complete_irqEn, complete_cfg, complete_prev,
    complete_rxPos, complete_inputs, complete_busOut, complete_rxh, complete_part, complete_codec, complete_txFrameLen,
    complete_lfsrTx, complete_lfsrRx, complete_rx, complete_pipe, complete_draws, complete_status_payloadOk,
    complete_status_pipeHdrKnown, complete_status_pipeDone, complete_status_barkerFound, complete_result]
  refine ⟨hcontrol, effect_rxh s s' i h, effect_part s s' i h, effect_payload s s' i h, effect_corrHdr s s' i h,
    effect_corrRs s s' i h, effect_txFrameLen s s' i h, effect_lfsrTx s s' i h, effect_lfsrRx s s' i h,
    effect_pipe s s' i h, effect_barker s s' i h, effect_rx s s' i h, ⟨?_, ?_⟩, fun hf => ?_, fun hcode => ?_⟩
  · rw [hcomplete, hevent]
    exact event_or_and_self s.event raised
  · rw [hcomplete, hevent, BitVec.and_or_distrib_right, hraised, BitVec.or_zero]
  · rw [← hinfo]
    exact complete_keeps_fault s' i.opcode code (hfault.trans hf)
  · rw [← hfault, ← hinfo]
    exact complete_no_fault s' i.opcode code hcode

end Sys2Proof.Machine
end

section
/-! SUPPORT. One clock of each register of the interleaver, a run of clocks, and bytes as bit sequences
(spec/00_scope.md R11, spec/41_interleaver.md R66 to R70). -/

namespace Sys2Proof.Machine

/-! ### One clock (R66, R67) -/

@[simp] theorem scrStep_output (s : BitVec 9) (b : Bool) : (scrStep s b).1 = (s.getLsbD 0 ^^ s.getLsbD 4) := rfl

@[simp] theorem dscrStep_output (r : BitVec 9) (c : Bool) : (dscrStep r c).1 = (c ^^ r.getLsbD 0) := rfl

theorem scrStep_bit (s : BitVec 9) (b : Bool) (k : Nat) (hk : k < 9) :
    (scrStep s b).2[k]
      = if k = 8 then b ^^ s.getLsbD 0 else if k = 3 then s.getLsbD 4 ^^ s.getLsbD 0 else s.getLsbD (k + 1) := by
  rw [← BitVec.getLsbD_eq_getElem hk, scrStep]
  simp only [BitVec.getLsbD_append, BitVec.getLsbD_ofBool, BitVec.getLsbD_extractLsb']
  interval_cases k <;> simp

theorem dscrStep_bit (r : BitVec 9) (c : Bool) (k : Nat) (hk : k < 9) :
    (dscrStep r c).2[k]
      = if k = 8 then c else if k = 3 then r.getLsbD 4 ^^ c else r.getLsbD (k + 1) := by
  rw [← BitVec.getLsbD_eq_getElem hk, dscrStep]
  simp only [BitVec.getLsbD_append, BitVec.getLsbD_ofBool, BitVec.getLsbD_extractLsb']
  interval_cases k <;> simp

/-- R66's one-expression form of the next state. -/
theorem scrStep_eq (s : BitVec 9) (b : Bool) :
    (scrStep s b).2
      = (((BitVec.ofBool (b ^^ s.getLsbD 0)).setWidth 10 <<< 9
          ||| (s.setWidth 10 ^^^ ((BitVec.ofBool (s.getLsbD 0)).setWidth 10 <<< 4))) >>> 1).setWidth 9 := by
  refine BitVec.eq_of_getElem_eq fun k hk => ?_
  rw [scrStep_bit s b k hk]
  interval_cases k <;> simp

/-- R67's one-expression form of the next state. -/
theorem dscrStep_eq (r : BitVec 9) (c : Bool) :
    (dscrStep r c).2
      = ((r >>> 1) ||| ((BitVec.ofBool c).setWidth 9 <<< 8)) ^^^ ((BitVec.ofBool c).setWidth 9 <<< 3) := by
  refine BitVec.eq_of_getElem_eq fun k hk => ?_
  rw [dscrStep_bit r c k hk]
  interval_cases k <;> simp

/-- The bits both registers only shift. -/
theorem shiftedBit_bounds (j : Nat) (hj : j ∈ [0, 1, 2, 4, 5, 6, 7]) : j < 9 ∧ j ≠ 8 ∧ j ≠ 3 := by
  simp only [List.mem_cons, List.not_mem_nil, or_false] at hj
  omega

/-! ### A run of clocks -/

@[simp] theorem clockBits_nil (f : BitVec 9 → Bool → Bool × BitVec 9) (s : BitVec 9) : clockBits f s [] = ([], s) := rfl

@[simp] theorem clockBits_cons (f : BitVec 9 → Bool → Bool × BitVec 9) (s : BitVec 9) (b : Bool) (l : List Bool) :
    clockBits f s (b :: l) = ((f s b).1 :: (clockBits f (f s b).2 l).1, (clockBits f (f s b).2 l).2) := rfl

/-- Settles O27: the run's two equations, and each clock read bit by bit. -/
theorem lfsrClocks : Obligations.LfsrClocks := by
  refine ⟨fun f s => ⟨clockBits_nil f s, clockBits_cons f s⟩,
    fun s b => ⟨scrStep_output s b, scrStep_bit s b 8 (by decide), scrStep_bit s b 3 (by decide), fun j hj => ?_,
      scrStep_eq s b⟩,
    fun r c => ⟨dscrStep_output r c, dscrStep_bit r c 8 (by decide), dscrStep_bit r c 3 (by decide), fun j hj => ?_,
      dscrStep_eq r c⟩⟩
  · obtain ⟨hj9, hj8, hj3⟩ := shiftedBit_bounds j hj
    rw [BitVec.getLsbD_eq_getElem hj9, scrStep_bit s b j hj9, if_neg hj8, if_neg hj3]
  · obtain ⟨hj9, hj8, hj3⟩ := shiftedBit_bounds j hj
    rw [BitVec.getLsbD_eq_getElem hj9, dscrStep_bit r c j hj9, if_neg hj8, if_neg hj3]

/-! ### Bytes as bit sequences (R11) -/

theorem byteBits_getD (b : Byte) (k : Nat) (hk : k < 8) : (byteBits b).getD k false = b.getLsbD (7 - k) := by
  interval_cases k <;> rfl

theorem byteOfBits_bit (b7 b6 b5 b4 b3 b2 b1 b0 : Bool) (k : Nat) (hk : k < 8) :
    (byteOfBits b7 b6 b5 b4 b3 b2 b1 b0)[k] = [b0, b1, b2, b3, b4, b5, b6, b7].getD k false := by
  rw [← BitVec.getLsbD_eq_getElem hk, byteOfBits]
  simp only [BitVec.getLsbD_append, BitVec.getLsbD_ofBool]
  interval_cases k <;> simp

theorem byteBits_byteOfBits (b7 b6 b5 b4 b3 b2 b1 b0 : Bool) :
    byteBits (byteOfBits b7 b6 b5 b4 b3 b2 b1 b0) = [b7, b6, b5, b4, b3, b2, b1, b0] := by
  simp [byteBits, byteOfBits_bit]

theorem byteOfBits_byteBits (b : Byte) :
    byteOfBits (b.getLsbD 7) (b.getLsbD 6) (b.getLsbD 5) (b.getLsbD 4) (b.getLsbD 3) (b.getLsbD 2) (b.getLsbD 1)
      (b.getLsbD 0) = b := by
  refine BitVec.eq_of_getElem_eq fun k hk => ?_
  interval_cases k <;> simp [byteOfBits_bit]

@[simp] theorem bytesOfBits_bits (bs : List Byte) : bytesOfBits (bits bs) = bs := by
  induction bs with
  | nil => rfl
  | cons b bs ih =>
    rw [bits, byteBits]
    simp only [List.cons_append, List.nil_append, bytesOfBits, byteOfBits_byteBits, ih]

theorem bits_bytesOfBits (n : Nat) (l : List Bool) (h : l.length = 8 * n) : bits (bytesOfBits l) = l := by
  induction n generalizing l with
  | zero =>
    obtain rfl := List.length_eq_zero_iff.1 h
    rfl
  | succ n ih =>
    match l, h with
    | b7 :: b6 :: b5 :: b4 :: b3 :: b2 :: b1 :: b0 :: rest, h =>
      simp only [List.length_cons] at h
      rw [bytesOfBits, bits, byteBits_byteOfBits, ih rest (by omega)]
      rfl

theorem bits_injective : Function.Injective bits := Function.LeftInverse.injective bytesOfBits_bits

theorem bits_append (x y : List Byte) : bits (x ++ y) = bits x ++ bits y := by
  induction x with
  | nil => rfl
  | cons b x ih => simp [bits, ih]

theorem bits_take (l : List Byte) (n : Nat) : bits (l.take n) = (bits l).take (8 * n) := by
  rcases Nat.le_total n l.length with hn | hn
  · conv_rhs => rw [← List.take_append_drop n l, bits_append]
    exact (List.take_left' (by simp [hn])).symm
  · rw [List.take_of_length_le hn, List.take_of_length_le (by rw [bits_length]; omega)]

theorem bits_getD (bs : List Byte) (i k : Nat) (hi : i < bs.length) (hk : k < 8) :
    (bits bs).getD (8 * i + k) false = (bs.getD i 0#8).getLsbD (7 - k) := by
  induction bs generalizing i with
  | nil => exact absurd hi (Nat.not_lt_zero i)
  | cons b bs ih =>
    cases i with
    | zero =>
      rw [bits, Nat.mul_zero, Nat.zero_add, List.getD_append _ _ _ _ (by simpa using hk)]
      exact byteBits_getD b k hk
    | succ i =>
      rw [bits, List.getD_append_right _ _ _ _ (by simp; omega), List.getD_cons_succ,
        ← ih i (Nat.lt_of_succ_lt_succ hi)]
      congr 1
      rw [byteBits_length]
      omega

/-! ### The two functions as runs (R69, R70) -/

@[simp] theorem scramble_nil : scramble [] = ([], 0x00F#9) := rfl

theorem scramble_of_ne_nil (bytes : List Byte) (h : bytes ≠ []) :
    scramble bytes
      = (bytesOfBits ((clockBits scrStep 0x00F#9 (bits bytes ++ List.replicate 5 false)).1.drop 5),
          (clockBits scrStep 0x00F#9 (bits bytes ++ List.replicate 5 false)).2) := by
  cases bytes with
  | nil => exact absurd rfl h
  | cons b bs => rfl

theorem bits_scramble (bytes : List Byte) :
    bits (scramble bytes).1 = (clockBits scrStep 0x00F#9 (bits bytes ++ List.replicate 5 false)).1.drop 5 := by
  by_cases h : bytes = []
  · subst h
    rfl
  · rw [scramble_of_ne_nil bytes h]
    exact bits_bytesOfBits bytes.length _ (by simp)

theorem bits_descramble (bytes : List Byte) :
    bits (descramble bytes).1 = (clockBits dscrStep 0x1F0#9 (bits bytes)).1 :=
  bits_bytesOfBits bytes.length _ (by simp)

/-- Settles O11: for each command the checks pass and it executes, and the two functions are their registers' runs. -/
theorem scramblersStoreOutput : Obligations.ScramblersStoreOutput := by
  refine ⟨fun s input hsrc hdst hfree hread => ?scramble, fun s input hrx hsrc hdst hread => ?descramble, scramble_nil,
    rfl, fun bytes hne => ⟨bits_scramble bytes, ?state⟩, fun bytes => ⟨bits_descramble bytes, rfl⟩⟩
  case scramble =>
    exact runCommand_executed _ _ _ _ _ .ok (firstFailure_ranges_of_free s _ _ _ hsrc hdst hfree)
      (withBytes_some _ _ _ _ _ hread)
  case descramble =>
    refine runCommand_executed _ _ _ _ _ .ok ?_ (withBytes_some _ _ _ _ _ hread)
    rw [hazardCheck_of_disabled s hrx]
    exact firstFailure_ranges_of_le _ _ _ _ _ hsrc hdst
  case state => rw [scramble_of_ne_nil bytes hne]

end Sys2Proof.Machine
end

section
/-! SUPPORT. The two registers as one shift register: a stream of coded bits, of which the scrambler sends and the
descrambler reads each bit, and the plain bits it stands for (spec/41_interleaver.md R71 to R74). -/

namespace Sys2Proof.Machine

/-! ### The history a register stands for

Bit k of a history is the coded bit nine places before the present one plus k. The descrambler's register is a linear
image of the nine bits it read last; the scrambler's is one of the four bits it sent last and the five it sends next. -/

/-- The nine coded bits a scrambler state stands for. -/
def scrHistory (s : BitVec 9) : BitVec 9 := s ^^^ s <<< 4 ^^^ s <<< 8

/-- The nine coded bits a descrambler state stands for. -/
def dscrHistory (r : BitVec 9) : BitVec 9 := r ^^^ r >>> 5

/-- A history with its oldest bit dropped and the bit b after its newest. -/
def shiftIn (h : BitVec 9) (b : Bool) : BitVec 9 := BitVec.ofBool b ++ h.extractLsb' 1 8

theorem shiftIn_bit (h : BitVec 9) (b : Bool) (k : Nat) (hk : k < 9) :
    (shiftIn h b)[k] = if k = 8 then b else h.getLsbD (k + 1) := by
  rw [← BitVec.getLsbD_eq_getElem hk, shiftIn]
  simp only [BitVec.getLsbD_append, BitVec.getLsbD_ofBool, BitVec.getLsbD_extractLsb']
  interval_cases k <;> simp

/-- One scrambler clock shifts into the history the coded bit of its input (R71). -/
theorem scrHistory_scrStep (s : BitVec 9) (b : Bool) :
    scrHistory (scrStep s b).2
      = shiftIn (scrHistory s) (b ^^ (scrHistory s).getLsbD 5 ^^ (scrHistory s).getLsbD 0) := by
  refine BitVec.eq_of_getElem_eq fun k hk => ?_
  rw [shiftIn_bit _ _ k hk]
  interval_cases k <;> simp [scrHistory, scrStep_bit, Bool.xor_comm, Bool.xor_left_comm]

/-- The scrambler's output is the history's bit 4. -/
theorem scrStep_output_eq_history (s : BitVec 9) (b : Bool) : (scrStep s b).1 = (scrHistory s).getLsbD 4 := by
  simp [scrHistory, Bool.xor_comm]

/-- One descrambler clock shifts its input into the history. -/
theorem dscrHistory_dscrStep (r : BitVec 9) (c : Bool) :
    dscrHistory (dscrStep r c).2 = shiftIn (dscrHistory r) c := by
  refine BitVec.eq_of_getElem_eq fun k hk => ?_
  rw [shiftIn_bit _ _ k hk]
  interval_cases k <;> simp [dscrHistory, dscrStep_bit]

/-- The descrambler's output is the plain bit of its input and history (R71). -/
theorem dscrStep_output_eq_history (r : BitVec 9) (c : Bool) :
    (dscrStep r c).1 = (c ^^ (dscrHistory r).getLsbD 5 ^^ (dscrHistory r).getLsbD 0) := by
  simp [dscrHistory, Bool.xor_comm, Bool.xor_left_comm]

/-! ### A coded stream -/

/-- The stream's first nine bits are a history. -/
def OpensWith (w : Stream' Bool) (h : BitVec 9) : Prop := ∀ k < 9, w.get k = h.getLsbD k

/-- The plain bits of a coded stream whose first nine bits are its history (R71). -/
def plainBits (w : Stream' Bool) : Stream' Bool := fun j => w.get (j + 9) ^^ w.get (j + 5) ^^ w.get j

theorem get_plainBits (w : Stream' Bool) (j : Nat) :
    (plainBits w).get j = (w.get (j + 9) ^^ w.get (j + 5) ^^ w.get j) := rfl

/-- R71's recurrence: a coded bit is its plain bit with the coded bits four and nine places before it. -/
theorem get_coded (w : Stream' Bool) (j : Nat) :
    w.get (j + 9) = ((plainBits w).get j ^^ w.get (j + 5) ^^ w.get j) := by
  rw [get_plainBits, Bool.xor_assoc, Bool.xor_assoc, Bool.xor_left_comm (w.get j), Bool.xor_self, Bool.xor_false,
    Bool.xor_assoc, Bool.xor_self, Bool.xor_false]

theorem tail_plainBits (w : Stream' Bool) : (plainBits w).tail = plainBits w.tail := rfl

theorem opensWith_tail (w : Stream' Bool) (h : BitVec 9) (hw : OpensWith w h) :
    OpensWith w.tail (shiftIn h (w.get 9)) := by
  intro k hk
  rw [Stream'.get_tail, BitVec.getLsbD_eq_getElem hk, shiftIn_bit h _ k hk]
  split
  · next heq => rw [heq]
  · exact hw (k + 1) (by omega)

/-- A run of clocks along a stream: where each clock reads the head of `inp`, answers the head of `out` and leaves a
state that fits the stream's tail, the run reads the first n bits of `inp` and answers those of `out`. -/
theorem clockBits_take (f : BitVec 9 → Bool → Bool × BitVec 9) (fits : BitVec 9 → Stream' Bool → Prop)
    (inp out : Stream' Bool → Stream' Bool) (hinp : ∀ w, (inp w).tail = inp w.tail)
    (hout : ∀ w, (out w).tail = out w.tail)
    (hclock : ∀ s w, fits s w → (f s (inp w).head).1 = (out w).head ∧ fits (f s (inp w).head).2 w.tail)
    (n : Nat) (s : BitVec 9) (w : Stream' Bool) (hfits : fits s w) :
    (clockBits f s ((inp w).take n)).1 = (out w).take n := by
  induction n generalizing s w with
  | zero => rfl
  | succ n ih =>
    obtain ⟨hhead, htail⟩ := hclock s w hfits
    rw [Stream'.take_succ, Stream'.take_succ, clockBits_cons, hhead, hinp, hout, ih _ _ htail]

/-- The scrambler reads the plain bits of its stream and sends the stream, five bits early. -/
theorem clockBits_scrStep (n : Nat) (s : BitVec 9) (w : Stream' Bool) (hw : OpensWith w (scrHistory s)) :
    (clockBits scrStep s ((plainBits w).take n)).1 = (w.drop 4).take n := by
  refine clockBits_take scrStep (fun s w => OpensWith w (scrHistory s)) plainBits (Stream'.drop 4) tail_plainBits
    (fun w => rfl) (fun s w hw => ⟨?_, ?_⟩) n s w hw
  · rw [scrStep_output_eq_history, ← hw 4 (by decide)]
    rfl
  · have hcoded : ((plainBits w).head ^^ w.get 5 ^^ w.get 0) = w.get 9 := (get_coded w 0).symm
    rw [scrHistory_scrStep, ← hw 5 (by decide), ← hw 0 (by decide), hcoded]
    exact opensWith_tail w _ hw

/-- The descrambler reads its stream and answers the stream's plain bits. -/
theorem clockBits_dscrStep (n : Nat) (r : BitVec 9) (w : Stream' Bool) (hw : OpensWith w (dscrHistory r)) :
    (clockBits dscrStep r ((w.drop 9).take n)).1 = (plainBits w).take n := by
  refine clockBits_take dscrStep (fun r w => OpensWith w (dscrHistory r)) (Stream'.drop 9) plainBits (fun w => rfl)
    tail_plainBits (fun r w hw => ⟨?_, ?_⟩) n r w hw
  · rw [dscrStep_output_eq_history, ← hw 5 (by decide), ← hw 0 (by decide)]
    rfl
  · rw [dscrHistory_dscrStep]
    exact opensWith_tail w _ hw

/-! ### The stream a run belongs to -/

/-- Bit n of the coded stream that opens with a history and stands for given plain bits. -/
def codedBit (h : BitVec 9) (x : Stream' Bool) : Nat → Bool
  | n + 9 => x.get n ^^ codedBit h x (n + 5) ^^ codedBit h x n
  | n => h.getLsbD n

theorem codedBit_history (h : BitVec 9) (x : Stream' Bool) (k : Nat) (hk : k < 9) :
    codedBit h x k = h.getLsbD k := by
  interval_cases k <;> rfl

theorem codedBit_add_nine (h : BitVec 9) (x : Stream' Bool) (n : Nat) :
    codedBit h x (n + 9) = (x.get n ^^ codedBit h x (n + 5) ^^ codedBit h x n) := rfl

/-- Every history and every sequence of plain bits have a coded stream. -/
theorem exists_coded (h : BitVec 9) (x : Stream' Bool) : ∃ w, OpensWith w h ∧ plainBits w = x := by
  refine ⟨codedBit h x, codedBit_history h x, Stream'.ext fun n => ?_⟩
  show (codedBit h x (n + 9) ^^ codedBit h x (n + 5) ^^ codedBit h x n) = x.get n
  rw [codedBit_add_nine]
  simp [Bool.xor_left_comm, Bool.xor_comm]

/-- Every history and every sequence of coded bits after it are a coded stream. -/
theorem exists_received (h : BitVec 9) (c : Stream' Bool) : ∃ w, OpensWith w h ∧ w.drop 9 = c :=
  ⟨fun i => if i < 9 then h.getLsbD i else c.get (i - 9), fun _ hk => if_pos hk, Stream'.ext fun n => by
    show (if n + 9 < 9 then h.getLsbD (n + 9) else c.get (n + 9 - 9)) = c.get n
    rw [if_neg (by omega), Nat.add_sub_cancel]⟩

/-- Causality (R73): the history and the first m plain bits fix the first m coded bits. -/
theorem coded_unique (h : BitVec 9) (w w' : Stream' Bool) (m : Nat) (hw : OpensWith w h) (hw' : OpensWith w' h)
    (hplain : (plainBits w).take m = (plainBits w').take m) (i : Nat) (hi : i < m + 9) : w.get i = w'.get i := by
  induction i using Nat.strong_induction_on with
  | _ i ih =>
    rcases Nat.lt_or_ge i 9 with hlt | hge
    · rw [hw i hlt, hw' i hlt]
    · obtain ⟨j, rfl⟩ := Nat.exists_eq_add_of_le' hge
      have hj : (plainBits w).get j = (plainBits w').get j := by
        have hjm : j < m := by omega
        have := congrArg (·[j]?) hplain
        simpa [Stream'.getElem?_take hjm] using this
      rw [get_plainBits, get_plainBits, ih (j + 5) (by omega) (by omega), ih j (by omega) (by omega)] at hj
      simpa using hj

/-! ### The coded stream of a byte sequence (R69 to R71) -/

/-- The scrambler's initial state stands for nine ones (R71). -/
theorem scrHistory_txInit : scrHistory 0x00F#9 = BitVec.allOnes 9 := by decide

/-- So does the descrambler's, which is why the two undo each other from the first bit on. -/
theorem dscrHistory_rxInit : dscrHistory 0x1F0#9 = BitVec.allOnes 9 := by decide

theorem take_of_opensWith_ones (w : Stream' Bool) (hw : OpensWith w (BitVec.allOnes 9)) :
    w.take 9 = List.replicate 9 true := by
  refine List.ext_getElem (by simp) fun i hi _ => ?_
  have hi : i < 9 := by simpa using hi
  rw [Stream'.take_get, hw i hi, List.getElem_replicate, BitVec.getLsbD_allOnes, decide_eq_true hi]

/-- A list as the beginning of a stream. -/
def padded (l : List Bool) : Stream' Bool := Stream'.appendStream' l (Stream'.const false)

@[simp] theorem padded_take (l : List Bool) : (padded l).take l.length = l := by
  exact (Stream'.take_append_of_le_length _ _ _ le_rfl).trans List.take_length

theorem get_padded (l : List Bool) (i : Nat) : (padded l).get i = l.getD i false := by
  rcases Nat.lt_or_ge i l.length with hi | hi
  · rw [padded, Stream'.get_append_left _ _ _ hi, List.getD_eq_getElem _ _ hi]
  · obtain ⟨j, rfl⟩ := Nat.exists_eq_add_of_le hi
    rw [padded, Stream'.get_append_right, List.getD_eq_default _ _ hi]
    rfl

theorem getD_take (w : Stream' Bool) (n i : Nat) (hi : i < n) : (w.take n).getD i false = w.get i := by
  rw [List.getD_eq_getElem?_getD, Stream'.getElem?_take hi]
  rfl

/-- The scrambler's kept bits are the coded bits of its input, whatever state it starts from; the flush does not reach
them (R71). -/
theorem keptBits (s : BitVec 9) (x : List Bool) (w : Stream' Bool) (hw : OpensWith w (scrHistory s))
    (hx : (plainBits w).take x.length = x) :
    (clockBits scrStep s (x ++ List.replicate 5 false)).1.drop 5 = (w.drop 9).take x.length := by
  obtain ⟨w', hw', hplain⟩ := exists_coded (scrHistory s) (padded x)
  have hinput : x ++ List.replicate 5 false = (plainBits w').take (x.length + 5) := by
    rw [hplain, padded, ← Stream'.append_take]
    rfl
  have hsame : w.take (x.length + 9) = w'.take (x.length + 9) := by
    refine List.ext_getElem (by simp) fun i hi _ => ?_
    rw [Stream'.take_get, Stream'.take_get]
    refine coded_unique (scrHistory s) w w' x.length hw hw' ?_ i (by simpa using hi)
    rw [hx, hplain, padded_take]
  rw [hinput, clockBits_scrStep _ s w' hw', Stream'.take_drop, Stream'.take_drop, List.drop_drop, Nat.add_comm 9,
    hsame]
  congr 2
  omega

/-- The scrambled bits of a byte sequence are a coded stream that opens with nine ones. -/
theorem bits_scramble_eq_coded (bytes : List Byte) (w : Stream' Bool) (hw : OpensWith w (BitVec.allOnes 9))
    (hx : (plainBits w).take (8 * bytes.length) = bits bytes) :
    bits (scramble bytes).1 = (w.drop 9).take (8 * bytes.length) := by
  rw [bits_scramble, ← bits_length]
  exact keptBits 0x00F#9 (bits bytes) w (by rwa [scrHistory_txInit]) (by rwa [bits_length])

/-- The descrambled bits of a byte sequence that follows nine ones in a coded stream are that stream's plain bits. -/
theorem bits_descramble_eq_plain (bytes : List Byte) (w : Stream' Bool) (hw : OpensWith w (BitVec.allOnes 9))
    (hc : (w.drop 9).take (8 * bytes.length) = bits bytes) :
    bits (descramble bytes).1 = (plainBits w).take (8 * bytes.length) := by
  rw [bits_descramble, ← hc]
  exact clockBits_dscrStep _ _ w (by rwa [dscrHistory_rxInit])

/-- Every byte sequence has a coded stream that opens with nine ones. -/
theorem exists_coded_bits (bytes : List Byte) :
    ∃ w, OpensWith w (BitVec.allOnes 9) ∧ (plainBits w).take (8 * bytes.length) = bits bytes := by
  obtain ⟨w, hw, hplain⟩ := exists_coded (BitVec.allOnes 9) (padded (bits bytes))
  exact ⟨w, hw, by rw [hplain, ← bits_length, padded_take]⟩

/-- Settles O29: from the initial states both registers stand for the same nine ones, so the descrambler reads the very
stream the scrambler sent; from other states it reads a stream that differs in its first nine bits only. -/
theorem descrambleUndoesScramble : Obligations.DescrambleUndoesScramble := by
  refine ⟨fun bytes => bits_injective ?_, fun s r x j hj hlen => ?_⟩
  · obtain ⟨w, hw, hx⟩ := exists_coded_bits bytes
    have hsent := bits_scramble_eq_coded bytes w hw hx
    rw [bits_descramble_eq_plain _ w hw (by rw [scramble_length, hsent]), scramble_length, hx]
  · obtain ⟨w, hw, hplain⟩ := exists_coded (scrHistory s) (padded x)
    obtain ⟨w', hw', hread⟩ := exists_received (dscrHistory r) (w.drop 9)
    have hkept := keptBits s x w hw (by rw [hplain, padded_take])
    have hlater (i : Nat) (hi : 9 ≤ i) : w'.get i = w.get i := by
      obtain ⟨k, rfl⟩ := Nat.exists_eq_add_of_le hi
      rw [← Stream'.get_drop, ← Stream'.get_drop, hread]
    have hbit : (plainBits w').get j = (padded x).get j := by
      rw [← hplain, get_plainBits, get_plainBits, hlater _ hj, hlater _ (by omega), hlater _ (by omega)]
    dsimp only
    rw [hkept, ← hread, clockBits_dscrStep _ r w' hw', Stream'.getElem?_take hlen, hbit, get_padded,
      List.getD_eq_getElem _ _ hlen, List.getElem?_eq_getElem hlen]

/-- Nine ones and then bits of a stream that opens with them are that stream. -/
theorem history_getD (w : Stream' Bool) (hw : OpensWith w (BitVec.allOnes 9)) (n i : Nat) (hi : i < 9 + n) :
    (List.replicate 9 true ++ (w.drop 9).take n).getD i false = w.get i := by
  rw [← take_of_opensWith_ones w hw, ← Stream'.take_add, getD_take w _ i hi]

/-- Settles O28: both closed forms are the relation between the bits of a coded stream and its plain bits. -/
theorem scramblerClosedForm : Obligations.ScramblerClosedForm := by
  refine ⟨fun bytes => ⟨bits_length bytes, fun i k => bits_getD bytes i k⟩, fun bytes j hj => ?scramble,
    fun bytes j hj => ?descramble⟩
  case scramble =>
    obtain ⟨w, hw, hx⟩ := exists_coded_bits bytes
    dsimp only
    rw [bits_scramble_eq_coded bytes w hw hx, history_getD w hw _ _ (by omega), history_getD w hw _ _ (by omega),
      history_getD w hw _ _ (by omega), ← hx, getD_take _ _ _ hj]
    exact get_coded w j
  case descramble =>
    obtain ⟨w, hw, hread⟩ := exists_received (BitVec.allOnes 9) (padded (bits bytes))
    have hc : (w.drop 9).take (8 * bytes.length) = bits bytes := by rw [hread, ← bits_length, padded_take]
    dsimp only
    rw [bits_descramble_eq_plain bytes w hw hc, getD_take _ _ _ hj, get_plainBits, ← hc,
      history_getD w hw _ _ (by omega), history_getD w hw _ _ (by omega), history_getD w hw _ _ (by omega)]

/-! ### Causality and the spread of an error (R73, R74) -/

theorem take_bits_append (w : Stream' Bool) (x y : List Byte)
    (h : w.take (8 * (x ++ y).length) = bits (x ++ y)) : w.take (8 * x.length) = bits x := by
  have := congrArg (List.take (8 * x.length)) h
  rwa [Stream'.take_take, ← bits_take, List.take_left, Nat.min_eq_right (by simp)] at this

theorem scramble_append_take (x y : List Byte) : (scramble (x ++ y)).1.take x.length = (scramble x).1 := by
  obtain ⟨w, hw, hxy⟩ := exists_coded_bits (x ++ y)
  apply bits_injective
  rw [bits_take, bits_scramble_eq_coded _ w hw hxy, bits_scramble_eq_coded x w hw (take_bits_append _ x y hxy),
    Stream'.take_take, Nat.min_eq_right (by simp)]

theorem descramble_append_take (x y : List Byte) : (descramble (x ++ y)).1.take x.length = (descramble x).1 := by
  obtain ⟨w, hw, hread⟩ := exists_received (BitVec.allOnes 9) (padded (bits (x ++ y)))
  have hxy : (w.drop 9).take (8 * (x ++ y).length) = bits (x ++ y) := by rw [hread, ← bits_length, padded_take]
  apply bits_injective
  rw [bits_take, bits_descramble_eq_plain _ w hw hxy, bits_descramble_eq_plain x w hw (take_bits_append _ x y hxy),
    Stream'.take_take, Nat.min_eq_right (by simp)]

theorem getD_flip (c : List Bool) (j i : Nat) (hj : j < c.length) :
    (c.set j (!c.getD j false)).getD i false = (c.getD i false ^^ decide (i = j)) := by
  rcases eq_or_ne i j with rfl | hij
  · simp [hj]
  · simp [hij, hij.symm]

/-- The descrambler's output bit from the stream it reads. -/
theorem clockBits_dscrStep_getD (r : BitVec 9) (c : List Bool) (w : Stream' Bool) (hw : OpensWith w (dscrHistory r))
    (hread : w.drop 9 = padded c) (i : Nat) (hi : i < c.length) :
    (clockBits dscrStep r c).1.getD i false = (plainBits w).get i := by
  rw [← getD_take _ _ _ hi, ← clockBits_dscrStep _ r w hw, hread, padded_take]

/-- A wrong bit read is one wrong bit of the coded stream. -/
theorem flipped_stream (r : BitVec 9) (c : List Bool) (j : Nat) (hj : j < c.length) (w w' : Stream' Bool)
    (hw : OpensWith w (dscrHistory r)) (hw' : OpensWith w' (dscrHistory r)) (hread : w.drop 9 = padded c)
    (hread' : w'.drop 9 = padded (c.set j (!c.getD j false))) (i : Nat) :
    w'.get i = (w.get i ^^ decide (i = j + 9)) := by
  rcases Nat.lt_or_ge i 9 with hlt | hge
  · rw [hw i hlt, hw' i hlt, decide_eq_false (by omega), Bool.xor_false]
  · obtain ⟨k, rfl⟩ := Nat.exists_eq_add_of_le hge
    rw [← Stream'.get_drop, ← Stream'.get_drop, hread, hread', get_padded, get_padded, getD_flip c j k hj]
    congr 1
    exact decide_eq_decide.2 (by omega)

/-- The plain bits a wrong coded bit reaches (R74). -/
theorem plainBits_flipped (w w' : Stream' Bool) (j : Nat) (hflip : ∀ i, w'.get i = (w.get i ^^ decide (i = j + 9)))
    (i : Nat) : (plainBits w').get i ≠ (plainBits w).get i ↔ i = j ∨ i = j + 4 ∨ i = j + 9 := by
  have hspread : ((plainBits w').get i ^^ (plainBits w).get i)
      = (decide (i = j) ^^ decide (i = j + 4) ^^ decide (i = j + 9)) := by
    simp only [get_plainBits, hflip, Nat.add_right_cancel_iff, show i + 5 = j + 9 ↔ i = j + 4 by omega]
    simp [Bool.xor_comm, Bool.xor_left_comm]
  rw [← Bool.xor_iff_ne, hspread]
  by_cases h0 : i = j
  · simp [h0]
  · by_cases h4 : i = j + 4 <;> simp [h0, h4]

/-- Settles O30: the longer input's coded stream serves the shorter one, and a wrong bit read is one wrong coded bit. -/
theorem scramblerCausalityAndErrorSpread : Obligations.ScramblerCausalityAndErrorSpread := by
  refine ⟨fun x y => ⟨scramble_append_take x y, descramble_append_take x y⟩, fun r c j i hj hi => ?_⟩
  obtain ⟨w, hw, hread⟩ := exists_received (dscrHistory r) (padded c)
  obtain ⟨w', hw', hread'⟩ := exists_received (dscrHistory r) (padded (c.set j (!c.getD j false)))
  rw [clockBits_dscrStep_getD r c w hw hread i hi,
    clockBits_dscrStep_getD r _ w' hw' hread' i (by rwa [List.length_set])]
  exact plainBits_flipped w w' j (flipped_stream r c j hj w w' hw hw' hread hread') i

end Sys2Proof.Machine
end

section
/-! SUPPORT. The arithmetic of the symbols: bytes with XOR and `gfMul` are a field, in which 2 has order 255
(spec/42_rs_codec.md R78). -/

namespace Sys2Proof.Machine

/-! ### Multiplication by z -/

/-- A term that is present or not, as one bit says: two bits give the XOR of their terms. -/
theorem ite_xor_bits (p q : Bool) (a : Byte) :
    (if p ^^ q then a else 0#8) = (if p then a else 0#8) ^^^ (if q then a else 0#8) := by
  cases p <;> cases q <;> simp

theorem gfDouble_eq (a : Byte) : gfDouble a = a <<< 1 ^^^ (if a.getLsbD 7 then Config.rsPrimLow else 0#8) := by
  unfold gfDouble
  split <;> simp

theorem gfDouble_xor (a b : Byte) : gfDouble (a ^^^ b) = gfDouble a ^^^ gfDouble b := by
  simp only [gfDouble_eq, BitVec.getLsbD_xor, ite_xor_bits, BitVec.shiftLeft_xor_distrib]
  ac_rfl

@[simp] theorem gfDouble_zero : gfDouble 0#8 = 0#8 := by decide

/-! ### Horner's rule over the bits of the second factor -/

/-- The product's loop over some bits of b, from an accumulator. -/
def gfHorner (a b : Byte) (is : List Nat) (acc : Byte) : Byte :=
  is.foldl (fun acc i => gfDouble acc ^^^ (if b.getLsbD i then a else 0#8)) acc

theorem gfMul_eq_horner (a b : Byte) : gfMul a b = gfHorner a b [7, 6, 5, 4, 3, 2, 1, 0] 0#8 := rfl

theorem gfHorner_cons (a b : Byte) (i : Nat) (is : List Nat) (acc : Byte) :
    gfHorner a b (i :: is) acc = gfHorner a b is (gfDouble acc ^^^ (if b.getLsbD i then a else 0#8)) := rfl

theorem gfHorner_xor_left (a a' b : Byte) (is : List Nat) (acc acc' : Byte) :
    gfHorner (a ^^^ a') b is (acc ^^^ acc') = gfHorner a b is acc ^^^ gfHorner a' b is acc' := by
  induction is generalizing acc acc' with
  | nil => rfl
  | cons i is ih =>
    rw [gfHorner_cons, gfHorner_cons, gfHorner_cons, ← ih, gfDouble_xor]
    congr 1
    split
    · ac_rfl
    · simp

theorem gfHorner_xor_right (a b b' : Byte) (is : List Nat) (acc acc' : Byte) :
    gfHorner a (b ^^^ b') is (acc ^^^ acc') = gfHorner a b is acc ^^^ gfHorner a b' is acc' := by
  induction is generalizing acc acc' with
  | nil => rfl
  | cons i is ih =>
    rw [gfHorner_cons, gfHorner_cons, gfHorner_cons, ← ih, gfDouble_xor, BitVec.getLsbD_xor, ite_xor_bits]
    congr 1
    ac_rfl

theorem gfHorner_double_left (a b : Byte) (is : List Nat) (acc : Byte) :
    gfHorner (gfDouble a) b is (gfDouble acc) = gfDouble (gfHorner a b is acc) := by
  induction is generalizing acc with
  | nil => rfl
  | cons i is ih =>
    rw [gfHorner_cons, gfHorner_cons, ← ih, gfDouble_xor]
    split <;> simp

/-! ### Multiplication is linear in both factors -/

theorem gfMul_xor_left (a a' b : Byte) : gfMul (a ^^^ a') b = gfMul a b ^^^ gfMul a' b := by
  simp only [gfMul_eq_horner]
  exact gfHorner_xor_left a a' b _ 0#8 0#8

theorem gfMul_xor_right (a b b' : Byte) : gfMul a (b ^^^ b') = gfMul a b ^^^ gfMul a b' := by
  simp only [gfMul_eq_horner]
  exact gfHorner_xor_right a b b' _ 0#8 0#8

theorem gfMul_double_left (a b : Byte) : gfMul (gfDouble a) b = gfDouble (gfMul a b) := by
  simp only [gfMul_eq_horner]
  exact gfHorner_double_left a b _ 0#8

@[simp] theorem gfMul_zero_left (b : Byte) : gfMul 0#8 b = 0#8 := by
  simpa using gfMul_xor_left 0#8 0#8 b

@[simp] theorem gfMul_zero_right (a : Byte) : gfMul a 0#8 = 0#8 := by
  simpa using gfMul_xor_right a 0#8 0#8

@[simp] theorem gfMul_one_left (b : Byte) : gfMul 1#8 b = b := by
  revert b
  decide

/-- Every byte is made from 1 by doubling and XOR: the product of 1 with it is computed that way. -/
theorem byte_induction {P : Byte → Prop} (zero : P 0#8) (one : P 1#8) (double : ∀ a, P a → P (gfDouble a))
    (xor : ∀ a b, P a → P b → P (a ^^^ b)) (a : Byte) : P a := by
  have horner : ∀ (is : List Nat) (acc : Byte), P acc → P (gfHorner 1#8 a is acc) := by
    intro is
    induction is with
    | nil => exact fun _ hacc => hacc
    | cons i is ih =>
      intro acc hacc
      refine ih _ (xor _ _ (double _ hacc) ?_)
      split
      · exact one
      · exact zero
  rw [← gfMul_one_left a]
  exact horner _ _ zero

theorem gfMul_double_right (a b : Byte) : gfMul a (gfDouble b) = gfDouble (gfMul a b) := by
  induction a using byte_induction with
  | zero => simp
  | one => simp
  | double a ih => rw [gfMul_double_left, ih, gfMul_double_left]
  | xor a a' ih ih' => rw [gfMul_xor_left, ih, ih', gfMul_xor_left, gfDouble_xor]

@[simp] theorem gfMul_one_right (a : Byte) : gfMul a 1#8 = a := by
  induction a using byte_induction with
  | zero => simp
  | one => simp
  | double a ih => rw [gfMul_double_left, ih]
  | xor a a' ih ih' => rw [gfMul_xor_left, ih, ih']

theorem gfMul_comm (a b : Byte) : gfMul a b = gfMul b a := by
  induction a using byte_induction with
  | zero => simp
  | one => simp
  | double a ih => rw [gfMul_double_left, gfMul_double_right, ih]
  | xor a a' ih ih' => rw [gfMul_xor_left, gfMul_xor_right, ih, ih']

theorem gfMul_assoc (a b c : Byte) : gfMul (gfMul a b) c = gfMul a (gfMul b c) := by
  induction a using byte_induction with
  | zero => simp
  | one => simp
  | double a ih => simp only [gfMul_double_left, ih]
  | xor a a' ih ih' => simp only [gfMul_xor_left, ih, ih']

/-- The power a^254 is the inverse: a^255 = 1, for each of the 255 nonzero bytes. -/
theorem gfMul_gfInv (a : Byte) (h : a ≠ 0#8) : gfMul a (gfInv a) = 1#8 := by
  revert a
  decide +kernel

theorem gfInv_zero : gfInv 0#8 = 0#8 := by simp [gfInv]

/-! ### The field -/

end Sys2Proof.Machine

namespace Sys2Proof

/-- The symbols, as a type apart from the machine words, which have another addition and multiplication. -/
structure Symbol where
  /-- The byte that stands for the symbol (R78). -/
  byte : Byte

/-- The symbols are a field (R78). -/
@[reducible] def symbolField : Field Symbol :=
  letI : Add Symbol := ⟨fun a b => ⟨a.byte ^^^ b.byte⟩⟩
  letI : Mul Symbol := ⟨fun a b => ⟨Machine.gfMul a.byte b.byte⟩⟩
  letI : Neg Symbol := ⟨id⟩
  letI : Inv Symbol := ⟨fun a => ⟨Machine.gfInv a.byte⟩⟩
  letI : Zero Symbol := ⟨⟨0#8⟩⟩
  letI : One Symbol := ⟨⟨1#8⟩⟩
  Field.ofMinimalAxioms Symbol
    (fun _ _ _ => congrArg Symbol.mk (BitVec.xor_assoc ..))
    (fun _ => congrArg Symbol.mk BitVec.zero_xor)
    (fun _ => congrArg Symbol.mk BitVec.xor_self)
    (fun _ _ _ => congrArg Symbol.mk (Machine.gfMul_assoc ..))
    (fun _ _ => congrArg Symbol.mk (Machine.gfMul_comm ..))
    (fun _ => congrArg Symbol.mk (Machine.gfMul_one_left _))
    (fun a h => congrArg Symbol.mk (Machine.gfMul_gfInv a.byte fun h0 => h (congrArg Symbol.mk h0)))
    (congrArg Symbol.mk Machine.gfInv_zero)
    (fun _ _ _ => congrArg Symbol.mk (Machine.gfMul_xor_right ..))
    ⟨⟨0#8⟩, ⟨1#8⟩, fun h => absurd (congrArg Symbol.byte h) (by decide)⟩

end Sys2Proof

namespace Sys2Proof.Machine

/-- A map that reads bytes as elements of a field, in which XOR is addition and `gfMul` is multiplication (R78). The
lemmas about words over the field speak of such a map, and so use the field's own algebra. -/
structure ReadsSymbols {F : Type} [Field F] (φ : Byte → F) : Prop where
  injective : Function.Injective φ
  xor (a b : Byte) : φ (a ^^^ b) = φ a + φ b
  mul (a b : Byte) : φ (gfMul a b) = φ a * φ b

theorem exists_readsSymbols : ∃ (F : Type) (_ : Field F) (φ : Byte → F), ReadsSymbols φ :=
  letI := symbolField
  ⟨Symbol, symbolField, Symbol.mk, ⟨fun _ _ h => congrArg Symbol.byte h, fun _ _ => rfl, fun _ _ => rfl⟩⟩

namespace ReadsSymbols

variable {F : Type} [Field F] {φ : Byte → F} (hφ : ReadsSymbols φ)
include hφ

theorem zero : φ 0#8 = 0 := by
  simpa using hφ.xor 0#8 0#8

theorem eq_zero_iff {a : Byte} : φ a = 0 ↔ a = 0#8 := by
  rw [← hφ.zero, hφ.injective.eq_iff]

theorem one : φ 1#8 = 1 := by
  have h := hφ.mul 1#8 1#8
  have hne : φ 1#8 ≠ 0 := mt hφ.eq_zero_iff.1 (by decide)
  rw [gfMul_one_left, left_eq_mul₀ hne] at h
  exact h

theorem pow (a : Byte) (n : Nat) : φ (gfPow a n) = φ a ^ n := by
  induction n with
  | zero => rw [gfPow, hφ.one, pow_zero]
  | succ n ih => rw [gfPow, hφ.mul, ih, pow_succ]

theorem charP : CharP F 2 := by
  refine CharTwo.of_one_ne_zero_of_two_eq_zero one_ne_zero ?_
  rw [← one_add_one_eq_two, ← hφ.one, ← hφ.xor, BitVec.xor_self, hφ.zero]

/-- α has order 255 (R78): its powers to 255 over the primes 3, 5 and 17 are not 1. -/
theorem orderOf_alpha : orderOf (φ 2#8) = 255 := by
  have hpow : ∀ n, φ 2#8 ^ n = 1 ↔ gfPow 2#8 n = 1#8 := fun n => by
    rw [← hφ.pow, ← hφ.one, hφ.injective.eq_iff]
  refine orderOf_eq_of_pow_and_pow_div_prime (by decide) ((hpow 255).2 (by decide +kernel)) fun p hp hdvd => ?_
  have hmem : p ∈ Nat.primeFactorsList 255 := (Nat.mem_primeFactorsList (by decide)).2 ⟨hp, hdvd⟩
  have hlist : Nat.primeFactorsList 255 = [3, 5, 17] := by simp
  rw [hlist] at hmem
  simp only [List.mem_cons, List.not_mem_nil, or_false] at hmem
  obtain rfl | rfl | rfl := hmem <;> exact mt (hpow _).1 (by decide +kernel)

end ReadsSymbols

theorem gfPow_alpha_injOn (i j : Nat) (hi : i < 255) (hj : j < 255) (h : gfPow 2#8 i = gfPow 2#8 j) : i = j := by
  obtain ⟨F, _, φ, hφ⟩ := exists_readsSymbols
  refine pow_injOn_Iio_orderOf (x := φ 2#8) (by simpa [hφ.orderOf_alpha]) (by simpa [hφ.orderOf_alpha]) ?_
  simpa only [hφ.pow] using congrArg φ h

/-- Settles O31: multiplication by 2 is one doubling, and the other laws are those of the field. -/
theorem galoisFieldLaws : Obligations.GaloisFieldLaws := by
  refine ⟨fun a => ?double, fun a n => ⟨rfl, rfl⟩, fun p c x => ⟨rfl, ?horner⟩,
    fun a b c => ⟨gfMul_comm a b, gfMul_assoc a b c, gfMul_xor_right a b c, gfMul_one_right a, gfMul_gfInv a⟩,
    by decide +kernel, gfPow_alpha_injOn⟩
  case double =>
    have htwo : (0x02#8 : Byte) = gfDouble 1#8 := by decide
    rw [htwo, gfMul_double_left, gfMul_one_left]
    rfl
  case horner => simp [polyEval]

end Sys2Proof.Machine
end

section
/-! SUPPORT. Words read as polynomials over the field, and the encoder: its words are the multiples of the generator
polynomial (spec/42_rs_codec.md R79, R80). -/

namespace Sys2Proof.Machine

open Polynomial

/-- The polynomial of a word, highest degree first (R79). -/
noncomputable def toPoly {F : Type} [Field F] (φ : Byte → F) : List Byte → F[X]
  | [] => 0
  | c :: p => C (φ c) * X ^ p.length + toPoly φ p

/-! ### The model's operations on words -/

section
variable {F : Type} [Field F] (φ : Byte → F)

@[simp] theorem toPoly_nil : toPoly φ [] = 0 := rfl

@[simp] theorem toPoly_cons (c : Byte) (p : List Byte) :
    toPoly φ (c :: p) = C (φ c) * X ^ p.length + toPoly φ p := rfl

theorem toPoly_append (p q : List Byte) : toPoly φ (p ++ q) = toPoly φ p * X ^ q.length + toPoly φ q := by
  induction p with
  | nil => simp
  | cons c p ih =>
    rw [List.cons_append, toPoly_cons, toPoly_cons, ih, List.length_append]
    ring

theorem degree_toPoly_lt (p : List Byte) : (toPoly φ p).degree < p.length := by
  induction p with
  | nil => simp
  | cons c p ih =>
    have hlt : (p.length : WithBot Nat) < (c :: p).length := Nat.cast_lt.2 (Nat.lt_succ_self _)
    rw [toPoly_cons]
    exact (degree_add_le _ _).trans_lt (max_lt ((degree_C_mul_X_pow_le _ _).trans_lt hlt) (ih.trans hlt))

end

namespace ReadsSymbols

variable {F : Type} [Field F] {φ : Byte → F} (hφ : ReadsSymbols φ)
include hφ

/-- Horner's rule evaluates the polynomial (R79). -/
theorem polyEval (p : List Byte) (x : Byte) : φ (polyEval p x) = (toPoly φ p).eval (φ x) := by
  induction p using List.reverseRecOn with
  | nil => simpa [Machine.polyEval] using hφ.zero
  | append_singleton p c ih =>
    have hstep : Machine.polyEval (p ++ [c]) x = gfMul (Machine.polyEval p x) x ^^^ c := by simp [Machine.polyEval]
    rw [hstep, hφ.xor, hφ.mul, ih, toPoly_append]
    simp

theorem polyEval_eq_zero_iff (p : List Byte) (x : Byte) :
    Machine.polyEval p x = 0#8 ↔ (toPoly φ p).eval (φ x) = 0 := by
  rw [← hφ.polyEval, hφ.eq_zero_iff]

theorem toPoly_xorBytes (p q : List Byte) (h : p.length = q.length) :
    toPoly φ (xorBytes p q) = toPoly φ p + toPoly φ q := by
  induction p generalizing q with
  | nil =>
    obtain rfl := List.length_eq_zero_iff.1 h.symm
    simp [xorBytes]
  | cons c p ih =>
    obtain ⟨d, q, rfl⟩ := List.exists_cons_of_length_eq_add_one h.symm
    have hlen : p.length = q.length := by simpa using h
    have hrest : toPoly φ (List.zipWith (fun x y => x ^^^ y) p q) = toPoly φ p + toPoly φ q := ih q hlen
    simp only [xorBytes, List.zipWith_cons_cons, toPoly_cons, List.length_zipWith, hrest, hlen, min_self, hφ.xor, C_add]
    ring

theorem toPoly_map_gfMul (p : List Byte) (r : Byte) :
    toPoly φ (p.map fun c => gfMul c r) = C (φ r) * toPoly φ p := by
  induction p with
  | nil => simp
  | cons c p ih =>
    simp only [List.map_cons, toPoly_cons, ih, List.length_map, hφ.mul, C_mul]
    ring

theorem toPoly_polyMulRoot (p : List Byte) (r : Byte) :
    toPoly φ (polyMulRoot p r) = toPoly φ p * (X + C (φ r)) := by
  rw [polyMulRoot, hφ.toPoly_xorBytes _ _ (by simp), toPoly_append, toPoly_cons φ _ (p.map _), hφ.toPoly_map_gfMul]
  simp only [toPoly_cons, toPoly_nil, hφ.zero, C_0, List.length_singleton]
  ring

theorem toPoly_zeros (n : Nat) : toPoly φ (List.replicate n 0#8) = 0 := by
  induction n with
  | zero => rfl
  | succ n ih => simp [List.replicate_succ, ih, hφ.zero]

/-- Only a word of zeros is the zero polynomial. -/
theorem eq_zero_of_toPoly (p : List Byte) (h : toPoly φ p = 0) : ∀ c ∈ p, c = 0#8 := by
  induction p with
  | nil => simp
  | cons c p ih =>
    have hc : c = 0#8 := by
      have hcoeff := congrArg (fun q => q.coeff p.length) h
      simpa [coeff_eq_zero_of_degree_lt (degree_toPoly_lt φ p), hφ.eq_zero_iff] using hcoeff
    have hp : toPoly φ p = 0 := by simpa [hc, hφ.zero] using h
    simpa [hc] using ih hp

/-! ### The generator polynomial (R79) -/

theorem toPoly_rsGenerator (n : Nat) :
    toPoly φ (rsGenerator n) = ∏ j ∈ Finset.range n, (X + C (φ (rsRoot j))) := by
  induction n with
  | zero => simp [rsGenerator, hφ.one]
  | succ n ih => rw [rsGenerator, hφ.toPoly_polyMulRoot, ih, Finset.prod_range_succ]

theorem eval_rsGenerator_rsRoot (n j : Nat) (hj : j < n) : (toPoly φ (rsGenerator n)).eval (φ (rsRoot j)) = 0 := by
  have := hφ.charP
  rw [hφ.toPoly_rsGenerator, eval_prod]
  exact Finset.prod_eq_zero (Finset.mem_range.2 hj) (by simp [CharTwo.add_self_eq_zero])

end ReadsSymbols

theorem rsGenerator_eq_cons (n : Nat) : rsGenerator n = 1#8 :: (rsGenerator n).tail := by
  induction n with
  | zero => rfl
  | succ n ih =>
    rw [rsGenerator, ih]
    simp [polyMulRoot, xorBytes]

/-! ### The division by the generator (R80) -/

namespace ReadsSymbols

variable {F : Type} [Field F] {φ : Byte → F} (hφ : ReadsSymbols φ)
include hφ

/-- One step shifts the next symbol in and takes a multiple of the generator away. -/
theorem dvd_rsRemStep (n : Nat) (rem : List Byte) (b : Byte) (hrem : rem.length = n) :
    toPoly φ (rsGenerator n) ∣
      toPoly φ (rsRemStep (rsGenerator n).tail rem b) + (toPoly φ rem * X + C (φ b) * X ^ n) := by
  have := hφ.charP
  cases rem with
  | nil =>
    obtain rfl : 0 = n := hrem
    simp [rsGenerator, hφ.one]
  | cons r rs =>
    have hlen : (rsGenerator n).tail.length = n := by simp
    have hgen : toPoly φ (rsGenerator n) = X ^ n + toPoly φ (rsGenerator n).tail := by
      rw [rsGenerator_eq_cons n, toPoly_cons, List.tail_cons, hlen, hφ.one, C_1, one_mul]
    refine ⟨C (φ (b ^^^ r)), ?_⟩
    have hmap : (rsGenerator n).tail.map (fun g => gfMul (b ^^^ r) g)
        = (rsGenerator n).tail.map fun g => gfMul g (b ^^^ r) := List.map_congr_left fun g _ => gfMul_comm ..
    have hpow : (X : F[X]) ^ n = X ^ rs.length * X := by rw [← hrem, List.length_cons, pow_succ]
    rw [rsRemStep, hφ.toPoly_xorBytes _ _ (by simp [← hrem]), toPoly_append, hmap, hφ.toPoly_map_gfMul, hgen, hφ.xor,
      toPoly_cons, hpow]
    simp only [toPoly_cons, toPoly_nil, hφ.zero, C_add, C_0, List.length_singleton, pow_one]
    linear_combination (toPoly φ rs * X) * CharTwo.two_eq_zero (R := F[X])

theorem dvd_foldl_rsRemStep (n : Nat) (m rem : List Byte) (hrem : rem.length = n) :
    toPoly φ (rsGenerator n) ∣
      toPoly φ (m.foldl (rsRemStep (rsGenerator n).tail) rem)
        + (toPoly φ rem * X ^ m.length + toPoly φ m * X ^ n) := by
  have := hφ.charP
  induction m generalizing rem with
  | nil => simp [CharTwo.add_self_eq_zero]
  | cons b m ih =>
    have hlen : (rsRemStep (rsGenerator n).tail rem b).length = n := by
      simpa using rsRemStep_length (rsGenerator n).tail rem b (by simpa using hrem)
    have hsum := (ih _ hlen).add (dvd_mul_of_dvd_left (hφ.dvd_rsRemStep n rem b hrem) (X ^ m.length))
    rw [List.foldl_cons]
    convert hsum using 1
    rw [toPoly_cons, List.length_cons]
    linear_combination
      -(toPoly φ (rsRemStep (rsGenerator n).tail rem b) * X ^ m.length) * CharTwo.two_eq_zero (R := F[X])

/-- The encoder's words are multiples of the generator (R79, R80). -/
theorem dvd_rsEnc (m : List Byte) (n : Nat) : toPoly φ (rsGenerator n) ∣ toPoly φ (rsEnc m n) := by
  have h := hφ.dvd_foldl_rsRemStep n m (List.replicate n 0#8) (by simp)
  rw [hφ.toPoly_zeros, zero_mul, zero_add, add_comm] at h
  rwa [rsEnc, toPoly_append, rsParity_length]

end ReadsSymbols

/-- The encoder's words vanish at the roots of the generator. -/
theorem polyEval_rsEnc (m : List Byte) (nsym j : Nat) (hj : j < nsym) :
    polyEval (rsEnc m nsym) (gfPow 2#8 j) = 0#8 := by
  obtain ⟨F, _, φ, hφ⟩ := exists_readsSymbols
  have hroot : gfPow 2#8 j = rsRoot j := by simp [rsRoot, Config.rsAlpha, Config.rsFcr]
  rw [hroot, hφ.polyEval_eq_zero_iff]
  exact eval_eq_zero_of_dvd_of_eval_eq_zero (hφ.dvd_rsEnc m nsym) (hφ.eval_rsGenerator_rsRoot nsym j hj)

end Sys2Proof.Machine
end

section
/-! SUPPORT. Words read by the powers of their positions' locators: power sums, the Vandermonde argument for the minimum
distance, and that the codewords are the words that vanish at the roots (spec/42_rs_codec.md R79 to R81). -/

namespace Sys2Proof.Machine

/-! ### Power sums -/

/-- The j-th power sum of values placed at locators. -/
def powerSum {F : Type} [Field F] (φ : Byte → F) (ps : List (Byte × Byte)) (j : Nat) : F :=
  (ps.map fun p => φ p.1 * φ p.2 ^ j).sum

/-- A word's symbols, each with the locator of its position. -/
def placed (e : List Byte) : List (Byte × Byte) := e.zip (locators e.length)

@[simp] theorem locators_length (n : Nat) : (locators n).length = n := by
  induction n with
  | zero => rfl
  | succ n ih => simp [locators, ih]

theorem locators_eq_map (n : Nat) : locators n = (List.range n).reverse.map (gfPow 2#8) := by
  induction n with
  | zero => rfl
  | succ n ih => simp [locators, ih, List.range_succ, Config.rsAlpha]

/-- The locators of a word's positions are different (R79). -/
theorem locators_nodup (n : Nat) (hn : n ≤ 255) : (locators n).Nodup := by
  rw [locators_eq_map]
  refine List.Nodup.map_on (fun i hi j hj h => gfPow_alpha_injOn i j ?_ ?_ h) (List.nodup_reverse.2 List.nodup_range)
  · have := List.mem_range.1 (List.mem_reverse.1 hi); omega
  · have := List.mem_range.1 (List.mem_reverse.1 hj); omega

@[simp] theorem placed_map_fst (e : List Byte) : (placed e).map Prod.fst = e := List.map_fst_zip (by simp)

@[simp] theorem placed_map_snd (e : List Byte) : (placed e).map Prod.snd = locators e.length :=
  List.map_snd_zip (by simp)

namespace ReadsSymbols

variable {F : Type} [Field F] {φ : Byte → F} (hφ : ReadsSymbols φ)
include hφ

/-- A word's value at a power of α is a power sum over its positions. -/
theorem polyEval_eq_powerSum (e : List Byte) (j : Nat) :
    φ (Machine.polyEval e (gfPow 2#8 j)) = powerSum φ (placed e) j := by
  rw [hφ.polyEval, hφ.pow]
  induction e with
  | nil => simp [powerSum, placed]
  | cons c e ih =>
    have hcons : powerSum φ (placed (c :: e)) j = φ c * φ (gfPow 2#8 e.length) ^ j + powerSum φ (placed e) j := rfl
    rw [hcons, ← ih, hφ.pow]
    simp [pow_right_comm]

theorem powerSum_eq_zero (ps : List (Byte × Byte)) (j : Nat) (h : ∀ p ∈ ps, p.1 = 0#8) : powerSum φ ps j = 0 := by
  refine List.sum_eq_zero (List.forall_mem_map.2 fun p hp => ?_)
  rw [h p hp, hφ.zero, zero_mul]

/-- Values without which nothing is left out do not count. -/
theorem powerSum_filter (ps : List (Byte × Byte)) (q : Byte × Byte → Bool) (j : Nat)
    (h : ∀ p ∈ ps, q p = false → p.1 = 0#8) : powerSum φ (ps.filter q) j = powerSum φ ps j := by
  induction ps with
  | nil => rfl
  | cons p ps ih =>
    have hrest := ih fun x hx => h x (List.mem_cons_of_mem _ hx)
    have hcons : powerSum φ (p :: ps) j = φ p.1 * φ p.2 ^ j + powerSum φ ps j := rfl
    cases hq : q p with
    | true => rw [List.filter_cons_of_pos hq, hcons, ← hrest]; rfl
    | false =>
      rw [List.filter_cons_of_neg (by simp [hq]), hcons, hrest, h p List.mem_cons_self hq, hφ.zero, zero_mul, zero_add]

/-- Vandermonde: values at N different locators whose first N power sums are 0 are all 0. -/
theorem eq_zero_of_powerSum (ps : List (Byte × Byte)) (N : Nat) (hnodup : (ps.map Prod.snd).Nodup)
    (hlen : ps.length ≤ N) (h : ∀ j < N, powerSum φ ps j = 0) : ∀ p ∈ ps, p.1 = 0#8 := by
  have hinj : Function.Injective fun i : Fin ps.length => φ ps[i].2 := fun i j hij => by
    have hget := hφ.injective hij
    simpa [Fin.ext_iff, ← hnodup.getElem_inj_iff] using hget
  have hzero := Matrix.eq_zero_of_forall_pow_sum_mul_pow_eq_zero (v := fun i => φ ps[i].1) hinj fun j => by
    rw [← h j (j.2.trans_le hlen), powerSum]
    exact Fin.sum_univ_fun_getElem ps fun p => φ p.1 * φ p.2 ^ (j : Nat)
  intro p hp
  obtain ⟨i, hi, rfl⟩ := List.mem_iff_getElem.1 hp
  exact hφ.eq_zero_iff.1 (congrFun hzero ⟨i, hi⟩)

end ReadsSymbols

/-! ### The minimum distance (R79) -/

/-- The number of nonzero symbols of a word. -/
def weight (e : List Byte) : Nat := e.countP (· != 0#8)

/-- The nonzero symbols of a word, each with the locator of its position. -/
def errors (e : List Byte) : List (Byte × Byte) := (placed e).filter fun p => p.1 != 0#8

@[simp] theorem errors_length (e : List Byte) : (errors e).length = weight e := by
  rw [errors, ← List.countP_eq_length_filter]
  conv_rhs => rw [weight, ← placed_map_fst e, List.countP_map]
  rfl

theorem mem_errors_iff (e : List Byte) (p : Byte × Byte) : p ∈ errors e ↔ p ∈ placed e ∧ p.1 ≠ 0#8 := by
  simp [errors]

theorem errors_nodup (e : List Byte) (hlen : e.length ≤ 255) : ((errors e).map Prod.snd).Nodup := by
  refine List.Nodup.sublist (List.filter_sublist.map _) ?_
  rw [placed_map_snd]
  exact locators_nodup _ hlen

/-- A word's value at a power of α is a power sum of its nonzero symbols. -/
theorem ReadsSymbols.polyEval_eq_powerSum_errors {F : Type} [Field F] {φ : Byte → F} (hφ : ReadsSymbols φ)
    (e : List Byte) (j : Nat) : φ (Machine.polyEval e (gfPow 2#8 j)) = powerSum φ (errors e) j := by
  rw [hφ.polyEval_eq_powerSum, errors, hφ.powerSum_filter _ _ _ (by simp)]

/-- A word of weight at most N that vanishes at N roots is zero. -/
theorem eq_zero_of_vanishing (e : List Byte) (N : Nat) (hlen : e.length ≤ 255) (hweight : weight e ≤ N)
    (h : ∀ j < N, polyEval e (gfPow 2#8 j) = 0#8) : ∀ a ∈ e, a = 0#8 := by
  obtain ⟨F, _, φ, hφ⟩ := exists_readsSymbols
  have hzero := hφ.eq_zero_of_powerSum (errors e) N (errors_nodup e hlen) (by simpa using hweight) fun j hj => by
    rw [← hφ.polyEval_eq_powerSum_errors, h j hj, hφ.zero]
  intro a ha
  by_contra hne
  rw [← placed_map_fst e] at ha
  obtain ⟨p, hp, rfl⟩ := List.mem_map.1 ha
  exact hne (hzero p ((mem_errors_iff e p).2 ⟨hp, hne⟩))

theorem dist_eq_weight (a b : List Byte) (h : a.length = b.length) : dist a b = weight (xorBytes a b) := by
  induction a generalizing b with
  | nil => rfl
  | cons x a ih =>
    obtain ⟨y, b, rfl⟩ := List.exists_cons_of_length_eq_add_one h.symm
    have hrest := ih b (by simpa using h)
    simp only [weight, xorBytes] at hrest
    simp only [dist, weight, xorBytes, List.zipWith_cons_cons, List.countP_cons, hrest, bne_iff_ne, ne_eq,
      BitVec.xor_eq_zero_iff]
    by_cases hxy : x = y
    · simp [hxy]
    · simpa [hxy] using Nat.add_comm ..

theorem eq_of_xorBytes_eq_zero (a b : List Byte) (h : a.length = b.length) (hzero : ∀ x ∈ xorBytes a b, x = 0#8) :
    a = b := by
  induction a generalizing b with
  | nil => exact (List.length_eq_zero_iff.1 h.symm).symm
  | cons x a ih =>
    obtain ⟨y, b, rfl⟩ := List.exists_cons_of_length_eq_add_one h.symm
    simp only [xorBytes, List.zipWith_cons_cons, List.mem_cons, forall_eq_or_imp, BitVec.xor_eq_zero_iff] at hzero
    rw [hzero.1, ih b (by simpa using h) hzero.2]

theorem polyEval_xorBytes (p q : List Byte) (h : p.length = q.length) (x : Byte) :
    polyEval (xorBytes p q) x = polyEval p x ^^^ polyEval q x := by
  obtain ⟨F, _, φ, hφ⟩ := exists_readsSymbols
  apply hφ.injective
  rw [hφ.xor, hφ.polyEval, hφ.polyEval, hφ.polyEval, hφ.toPoly_xorBytes p q h, Polynomial.eval_add]

/-- Two words that vanish at the nsym roots and differ in at most nsym positions are the same (R79). -/
theorem eq_of_dist_le (a b : List Byte) (nsym : Nat) (h : a.length = b.length) (hlen : a.length ≤ 255)
    (hdist : dist a b ≤ nsym) (ha : ∀ j < nsym, polyEval a (gfPow 2#8 j) = 0#8)
    (hb : ∀ j < nsym, polyEval b (gfPow 2#8 j) = 0#8) : a = b := by
  rw [dist_eq_weight a b h] at hdist
  refine eq_of_xorBytes_eq_zero a b h (eq_zero_of_vanishing _ nsym ?_ hdist fun j hj => ?_)
  · simpa [xorBytes_length, ← h] using hlen
  · rw [polyEval_xorBytes a b h, ha j hj, hb j hj, BitVec.xor_self]

/-! ### The codewords (R79, R80) -/

@[simp] theorem dist_self (a : List Byte) : dist a a = 0 := by
  induction a with
  | nil => rfl
  | cons x a ih => simp [dist, ih]

theorem dist_le_length (a b : List Byte) : dist a b ≤ b.length := by
  induction a generalizing b with
  | nil => simp [dist]
  | cons x a ih =>
    cases b with
    | nil => simp [dist]
    | cons y b =>
      have := ih b
      simp only [dist, List.length_cons]
      split <;> omega

theorem dist_append_left (m a b : List Byte) : dist (m ++ a) (m ++ b) = dist a b := by
  induction m with
  | nil => rfl
  | cons x m ih => simp [dist, ih]

/-- The codewords are exactly the words that vanish at the roots: a word and the encoding of its message part differ in
the parity only. -/
theorem rsEnc_take_eq_iff (c : List Byte) (nsym : Nat) (hn : nsym ≤ c.length) (hlen : c.length ≤ 255) :
    rsEnc (c.take (c.length - nsym)) nsym = c ↔ ∀ j < nsym, polyEval c (gfPow 2#8 j) = 0#8 := by
  refine ⟨fun h j hj => ?_, fun h => ?_⟩
  · rw [← h]
    exact polyEval_rsEnc _ nsym j hj
  · obtain ⟨m, p, rfl, hm⟩ : ∃ m p, c = m ++ p ∧ m.length = c.length - nsym :=
      ⟨_, _, (List.take_append_drop (c.length - nsym) c).symm, by simp⟩
    have hp : p.length = nsym := by simp only [List.length_append] at hm hn; omega
    have hmessage : (m ++ p).take ((m ++ p).length - nsym) = m := List.take_left' hm
    have hdist : dist (rsEnc m nsym) (m ++ p) ≤ nsym := by
      rw [rsEnc, dist_append_left]
      exact (dist_le_length _ _).trans_eq hp
    have hsame : (rsEnc m nsym).length = (m ++ p).length := by simp [hp]
    rw [hmessage]
    exact eq_of_dist_le _ _ nsym hsame (hsame ▸ hlen) hdist (fun j hj => polyEval_rsEnc _ nsym j hj) h

/-- Settles O32: the parity follows the message, and the codewords are the words that vanish at the roots. -/
theorem encoderMakesExactlyTheCodewords : Obligations.EncoderMakesExactlyTheCodewords :=
  ⟨fun m nsym => ⟨by simp [rsEnc], rsEnc_length m nsym⟩,
    fun c nsym _ hn hlen => rsEnc_take_eq_iff c nsym (Nat.le_of_succ_le hn) hlen⟩

end Sys2Proof.Machine
end

section
/-! SUPPORT. The decoder's linear algebra: `nullVector` answers a nonzero vector that every row is orthogonal to, and
answers one whenever there is one (spec/42_rs_codec.md R81). -/

namespace Sys2Proof.Machine

/-! ### Scalar products -/

@[simp] theorem gfDot_nil_left (b : List Byte) : gfDot [] b = 0#8 := by simp [gfDot]

@[simp] theorem gfDot_nil_right (a : List Byte) : gfDot a [] = 0#8 := by simp [gfDot]

@[simp] theorem gfDot_cons (x y : Byte) (a b : List Byte) : gfDot (x :: a) (y :: b) = gfMul x y ^^^ gfDot a b := rfl

theorem gfDot_eq_zero_of_zeros (a v : List Byte) (h : ∀ x ∈ v, x = 0#8) : gfDot a v = 0#8 := by
  induction a generalizing v with
  | nil => simp
  | cons x a ih =>
    cases v with
    | nil => simp
    | cons y v =>
      obtain ⟨hy, hv⟩ := List.forall_mem_cons.1 h
      simp [hy, ih v hv]

theorem gfDot_xorBytes (a b v : List Byte) (h : a.length = b.length) :
    gfDot (xorBytes a b) v = gfDot a v ^^^ gfDot b v := by
  induction a generalizing b v with
  | nil =>
    obtain rfl := List.length_eq_zero_iff.1 h.symm
    simp [xorBytes]
  | cons x a ih =>
    obtain ⟨y, b, rfl⟩ := List.exists_cons_of_length_eq_add_one h.symm
    cases v with
    | nil => simp
    | cons z v =>
      have hrest : gfDot (List.zipWith (fun x y => x ^^^ y) a b) v = gfDot a v ^^^ gfDot b v :=
        ih b v (by simpa using h)
      simp only [xorBytes, List.zipWith_cons_cons, gfDot_cons, hrest, gfMul_xor_left]
      ac_rfl

theorem gfDot_map_gfMul (k : Byte) (a v : List Byte) : gfDot (a.map fun y => gfMul k y) v = gfMul k (gfDot a v) := by
  induction a generalizing v with
  | nil => simp
  | cons x a ih =>
    cases v with
    | nil => simp
    | cons z v => simp [ih, gfMul_assoc, gfMul_xor_right]

/-! ### The pivot -/

theorem findPivot_none (rows : List (List Byte)) (h : findPivot rows = none) : ∀ row ∈ rows, row.headD 0#8 = 0#8 := by
  induction rows with
  | nil => simp
  | cons row rows ih =>
    unfold findPivot at h
    split at h
    · cases h
    · rename_i hrow
      cases hrest : findPivot rows with
      | none => exact List.forall_mem_cons.2 ⟨not_not.1 hrow, ih hrest⟩
      | some found => simp [hrest] at h

/-- The pivot's leading entry is not 0, and the pivot and the rest are the rows. -/
theorem findPivot_some (rows rest : List (List Byte)) (p : List Byte) (h : findPivot rows = some (p, rest)) :
    p.headD 0#8 ≠ 0#8 ∧ ∀ row, row ∈ rows ↔ row = p ∨ row ∈ rest := by
  induction rows generalizing rest with
  | nil => cases h
  | cons row rows ih =>
    unfold findPivot at h
    split at h
    · rename_i hrow
      cases h
      exact ⟨hrow, fun _ => List.mem_cons⟩
    · cases hrest : findPivot rows with
      | none => simp [hrest] at h
      | some found =>
        obtain ⟨p', rest'⟩ := found
        simp only [hrest, Option.some.injEq, Prod.mk.injEq] at h
        obtain ⟨rfl, rfl⟩ := h
        obtain ⟨hp, hmem⟩ := ih rest' hrest
        refine ⟨hp, fun x => ?_⟩
        rw [List.mem_cons, hmem, List.mem_cons]
        tauto

/-! ### Elimination -/

/-- The pivot row fixes the leading entry of a vector it is orthogonal to. -/
theorem gfDot_pivot_eq_zero_iff (x y : Byte) (a v : List Byte) (hx : x ≠ 0#8) :
    gfDot (x :: a) (y :: v) = 0#8 ↔ y = gfMul (gfInv x) (gfDot a v) := by
  rw [gfDot_cons, BitVec.xor_eq_zero_iff]
  constructor
  · intro h
    rw [← h, ← gfMul_assoc, gfMul_comm _ x, gfMul_gfInv x hx, gfMul_one_left]
  · rintro rfl
    rw [← gfMul_assoc, gfMul_gfInv x hx, gfMul_one_left]

/-- An eliminated row is orthogonal to a vector when the row is, with the leading entry that the pivot row fixes. -/
theorem gfDot_eliminate (b : List Byte) (inv : Byte) (row v : List Byte) (hlen : row.length = b.length + 1) :
    gfDot (eliminate b inv row) v = gfDot row (gfMul inv (gfDot b v) :: v) := by
  obtain ⟨x, a, rfl⟩ := List.exists_cons_of_length_eq_add_one hlen
  have hab : a.length = b.length := by simpa using hlen
  rw [eliminate, List.tail_cons, List.headD_cons, gfDot_xorBytes _ _ _ (by simpa using hab), gfDot_map_gfMul,
    gfDot_cons, gfMul_assoc, BitVec.xor_comm]

/-! ### The null vector -/

/-- A nonzero vector of length n that every row is orthogonal to. -/
def IsNullVector (rows : List (List Byte)) (n : Nat) (v : List Byte) : Prop :=
  v.length = n ∧ (∃ x ∈ v, x ≠ 0#8) ∧ ∀ row ∈ rows, gfDot row v = 0#8

/-- Without a pivot the first unit vector is one. -/
theorem isNullVector_of_no_pivot (rows : List (List Byte)) (n : Nat) (h : findPivot rows = none) :
    IsNullVector rows (n + 1) (1#8 :: List.replicate n 0#8) := by
  refine ⟨by simp, ⟨1#8, List.mem_cons_self, by decide⟩, fun row hrow => ?_⟩
  have hhead := findPivot_none rows h row hrow
  cases row with
  | nil => simp
  | cons x a =>
    obtain rfl : x = 0#8 := hhead
    simp [gfDot_eq_zero_of_zeros a _ fun y hy => List.eq_of_mem_replicate hy]

/-- With a pivot the null vectors are those of the eliminated rows, led by the entry that the pivot row fixes. -/
theorem isNullVector_cons_iff (rows rest : List (List Byte)) (p : List Byte) (n : Nat) (y : Byte) (v : List Byte)
    (hpivot : findPivot rows = some (p, rest)) (hlen : ∀ row ∈ rows, row.length = n + 1) :
    IsNullVector rows (n + 1) (y :: v)
      ↔ y = gfMul (gfInv (p.headD 0#8)) (gfDot p.tail v)
        ∧ IsNullVector (rest.map (eliminate p.tail (gfInv (p.headD 0#8)))) n v := by
  obtain ⟨hp, hmem⟩ := findPivot_some rows rest p hpivot
  have hplen : p.length = n + 1 := hlen p ((hmem p).2 (.inl rfl))
  obtain ⟨x, b, rfl⟩ := List.exists_cons_of_length_eq_add_one hplen
  have hrows : (∀ row ∈ rows, gfDot row (y :: v) = 0#8)
      ↔ y = gfMul (gfInv x) (gfDot b v) ∧ ∀ row ∈ rest.map (eliminate b (gfInv x)), gfDot row v = 0#8 := by
    simp only [hmem, forall_eq_or_imp, List.forall_mem_map]
    rw [gfDot_pivot_eq_zero_iff x y b v hp]
    refine and_congr_right fun hy => forall₂_congr fun row hrow => ?_
    rw [gfDot_eliminate _ _ _ _ ((hlen row ((hmem row).2 (.inr hrow))).trans hplen.symm), ← hy]
  have hnonzero : y = gfMul (gfInv x) (gfDot b v) → ((∃ z ∈ y :: v, z ≠ 0#8) ↔ ∃ z ∈ v, z ≠ 0#8) := by
    intro hy
    refine ⟨fun h => ?_, fun ⟨z, hz, hne⟩ => ⟨z, List.mem_cons_of_mem _ hz, hne⟩⟩
    by_contra hv
    have hv : ∀ z ∈ v, z = 0#8 := by simpa using hv
    rw [gfDot_eq_zero_of_zeros b v hv, gfMul_zero_right] at hy
    obtain ⟨z, hz, hne⟩ := h
    obtain rfl | hz := List.mem_cons.1 hz
    · exact hne hy
    · exact hne (hv z hz)
  simp only [IsNullVector, List.length_cons, Nat.add_right_cancel_iff, List.headD_cons, List.tail_cons, hrows]
  exact ⟨fun ⟨hv, hne, hy, hrest⟩ => ⟨hy, hv, (hnonzero hy).1 hne, hrest⟩,
    fun ⟨hy, hv, hne, hrest⟩ => ⟨hv, (hnonzero hy).2 hne, hy, hrest⟩⟩

theorem eliminate_length (b : List Byte) (inv : Byte) (row : List Byte) (n : Nat) (hb : b.length = n)
    (hrow : row.length = n + 1) : (eliminate b inv row).length = n := by
  simp [eliminate, xorBytes_length, hb, hrow]

theorem nullVector_of_no_pivot (rows : List (List Byte)) (n : Nat) (h : findPivot rows = none) :
    nullVector (n + 1) rows = some (1#8 :: List.replicate n 0#8) := by
  rw [nullVector, h]

theorem nullVector_of_pivot (rows rest : List (List Byte)) (p : List Byte) (n : Nat)
    (h : findPivot rows = some (p, rest)) :
    nullVector (n + 1) rows
      = (nullVector n (rest.map (eliminate p.tail (gfInv (p.headD 0#8))))).map fun v =>
          gfMul (gfInv (p.headD 0#8)) (gfDot p.tail v) :: v := by
  rw [nullVector, h]
  cases hv : nullVector n (rest.map (eliminate p.tail (gfInv (p.headD 0#8)))) <;>
    simp only [hv, Option.map_none, Option.map_some]

/-- What `nullVector` answers is a null vector, and it answers nothing only where there is none. -/
theorem nullVector_spec (n : Nat) (rows : List (List Byte)) (hlen : ∀ row ∈ rows, row.length = n) :
    (∀ v, nullVector n rows = some v → IsNullVector rows n v)
      ∧ (nullVector n rows = none → ∀ v, ¬IsNullVector rows n v) := by
  induction n generalizing rows with
  | zero =>
    refine ⟨fun v h => (by cases h), fun _ v ⟨hv, ⟨x, hx, _⟩, _⟩ => ?_⟩
    rw [List.length_eq_zero_iff.1 hv] at hx
    cases hx
  | succ n ih =>
    cases hpivot : findPivot rows with
    | none =>
      rw [nullVector_of_no_pivot rows n hpivot]
      refine ⟨fun v h => ?_, nofun⟩
      obtain rfl := Option.some.inj h
      exact isNullVector_of_no_pivot rows n hpivot
    | some found =>
      obtain ⟨p, rest⟩ := found
      obtain ⟨-, hmem⟩ := findPivot_some rows rest p hpivot
      have hcons := fun y v => isNullVector_cons_iff rows rest p n y v hpivot hlen
      obtain ⟨hsome, hnone⟩ := ih (rest.map (eliminate p.tail (gfInv (p.headD 0#8)))) <| List.forall_mem_map.2
        fun row hrow => eliminate_length _ _ _ _ (by simp [hlen p ((hmem p).2 (.inl rfl))])
          (hlen row ((hmem row).2 (.inr hrow)))
      rw [nullVector_of_pivot rows rest p n hpivot]
      refine ⟨fun w h => ?_, fun h w hw => ?_⟩
      · obtain ⟨v, hv, rfl⟩ := Option.map_eq_some_iff.1 h
        exact (hcons _ v).2 ⟨rfl, hsome v hv⟩
      · obtain ⟨hwlen, -⟩ := id hw
        obtain ⟨y, v, rfl⟩ := List.exists_cons_of_length_eq_add_one hwlen
        obtain ⟨-, hv⟩ := (hcons y v).1 hw
        exact hnone (Option.map_eq_none_iff.1 h) v hv

/-- Where there is a null vector, one is found. -/
theorem exists_nullVector (n : Nat) (rows : List (List Byte)) (v : List Byte) (hlen : ∀ row ∈ rows, row.length = n)
    (hv : IsNullVector rows n v) : ∃ w, nullVector n rows = some w ∧ IsNullVector rows n w := by
  obtain ⟨hsome, hnone⟩ := nullVector_spec n rows hlen
  cases hw : nullVector n rows with
  | none => exact absurd hv (hnone hw v)
  | some w => exact ⟨w, rfl, hsome w hw⟩

end Sys2Proof.Machine
end

section
/-! SUPPORT. The decoder's first linear system: a solution of the key equation is a polynomial of degree at most t that
vanishes at the locators of all errors (spec/42_rs_codec.md R81). -/

namespace Sys2Proof.Machine

/-! ### The rows of the key equation -/

theorem mem_keyRows_iff (S : Nat → Byte) (t m k : Nat) (row : List Byte) :
    row ∈ keyRows t ((List.range m).reverse.map S) ((List.range' m k).map S)
      ↔ ∃ j, t ≤ j ∧ m ≤ j ∧ j < m + k ∧ row = (List.range (t + 1)).map fun i => S (j - i) := by
  induction k generalizing m with
  | zero => exact iff_of_false (by simp [keyRows]) fun ⟨j, _, hj, hlt, _⟩ => absurd hlt (Nat.not_lt.2 hj)
  | succ k ih =>
    have hseen : S m :: (List.range m).reverse.map S = (List.range (m + 1)).reverse.map S := by
      simp [List.range_succ]
    rw [List.range'_succ, List.map_cons, keyRows, hseen]
    split
    · rename_i hshort
      have hm : m < t := by simpa using hshort
      rw [ih]
      exact exists_congr fun j => ⟨fun ⟨ht, _, hj, hrow⟩ => ⟨ht, by omega, by omega, hrow⟩,
        fun ⟨ht, _, hj, hrow⟩ => ⟨ht, by omega, by omega, hrow⟩⟩
    · rename_i hlong
      have hm : t ≤ m := by simpa using hlong
      have hfirst : ((List.range (m + 1)).reverse.map S).take (t + 1)
          = (List.range (t + 1)).map fun i => S (m - i) := by
        refine List.ext_getElem (by simp; omega) fun i hi _ => ?_
        simp
      rw [List.mem_cons, ih, hfirst]
      constructor
      · rintro (rfl | ⟨j, ht, hj, hlt, hrow⟩)
        · exact ⟨m, hm, le_rfl, by omega, rfl⟩
        · exact ⟨j, ht, by omega, by omega, hrow⟩
      · rintro ⟨j, ht, hj, hlt, hrow⟩
        obtain rfl | hne := Nat.eq_or_lt_of_le hj
        · exact .inl hrow
        · exact .inr ⟨j, ht, hne, by omega, hrow⟩

/-- The errors, each weighted with the value of a polynomial at its locator. -/
def weighted (l : List Byte) (ps : List (Byte × Byte)) : List (Byte × Byte) :=
  ps.map fun p => (gfMul p.1 (polyEval l p.2), p.2)

namespace ReadsSymbols

variable {F : Type} [Field F] {φ : Byte → F} (hφ : ReadsSymbols φ)
include hφ

theorem powerSum_weighted_cons (c : Byte) (l : List Byte) (ps : List (Byte × Byte)) (m : Nat) :
    powerSum φ (weighted (c :: l) ps) m
      = powerSum φ ps (m + l.length) * φ c + powerSum φ (weighted l ps) m := by
  induction ps with
  | nil => simp [powerSum, weighted]
  | cons p ps ih =>
    simp only [powerSum, weighted, List.map_cons, List.sum_cons, hφ.mul, hφ.polyEval, toPoly_cons] at ih ⊢
    rw [ih]
    simp only [Polynomial.eval_add, Polynomial.eval_mul, Polynomial.eval_C, Polynomial.eval_pow, Polynomial.eval_X]
    ring

/-- A row of power sums times a polynomial's coefficients is a power sum of the weighted errors. -/
theorem gfDot_keyRow (S : Nat → Byte) (ps : List (Byte × Byte)) (l : List Byte) (m : Nat)
    (hS : ∀ j, φ (S j) = powerSum φ ps j) :
    φ (gfDot ((List.range l.length).map fun i => S (m + l.length - 1 - i)) l) = powerSum φ (weighted l ps) m := by
  induction l with
  | nil =>
    rw [hφ.powerSum_eq_zero (weighted [] ps) m (List.forall_mem_map.2 fun p _ => gfMul_zero_right p.1)]
    exact hφ.zero
  | cons c l ih =>
    have hrest : ∀ i, m + (l.length + 1) - 1 - (i + 1) = m + l.length - 1 - i := fun i => by omega
    rw [hφ.powerSum_weighted_cons, ← ih, ← hS, ← hφ.mul, ← hφ.xor]
    simp only [List.length_cons, List.range_succ_eq_map, List.map_cons, List.map_map, Function.comp_def, gfDot_cons,
      Nat.succ_eq_add_one, hrest]
    rfl

end ReadsSymbols

/-! ### The locator polynomial -/

theorem exists_ne_zero_iff_toPoly {F : Type} [Field F] {φ : Byte → F} (hφ : ReadsSymbols φ) (l : List Byte) :
    (∃ c ∈ l, c ≠ 0#8) ↔ toPoly φ l ≠ 0 := by
  constructor
  · rintro ⟨c, hc, hne⟩ h
    exact hne (hφ.eq_zero_of_toPoly l h c hc)
  · intro h
    by_contra hall
    have hall : ∀ c ∈ l, c = 0#8 := by simpa using hall
    rw [List.eq_replicate_of_mem hall] at h
    exact h (hφ.toPoly_zeros _)

/-- There is a nonzero polynomial of degree t that vanishes at t given points. -/
theorem exists_locator (xs : List Byte) :
    ∃ l : List Byte, l.length = xs.length + 1 ∧ (∃ c ∈ l, c ≠ 0#8) ∧ ∀ x ∈ xs, polyEval l x = 0#8 := by
  obtain ⟨F, _, φ, hφ⟩ := exists_readsSymbols
  have := hφ.charP
  simp only [exists_ne_zero_iff_toPoly hφ, hφ.polyEval_eq_zero_iff]
  induction xs with
  | nil => exact ⟨[1#8], rfl, by simp [hφ.one], nofun⟩
  | cons r xs ih =>
    obtain ⟨l, hlen, hne, hroots⟩ := ih
    refine ⟨polyMulRoot l r, by simp [polyMulRoot, xorBytes_length, hlen], ?_, fun x hx => ?_⟩
    · rw [hφ.toPoly_polyMulRoot]
      exact mul_ne_zero hne (Polynomial.X_add_C_ne_zero _)
    · rw [hφ.toPoly_polyMulRoot, Polynomial.eval_mul]
      obtain rfl | hx := List.mem_cons.1 hx
      · simp [CharTwo.add_self_eq_zero]
      · rw [hroots x hx, zero_mul]

/-- A nonzero polynomial of degree at most t has at most t roots. -/
theorem length_roots_le (l xs : List Byte) (t : Nat) (hlen : l.length = t + 1) (hne : ∃ c ∈ l, c ≠ 0#8)
    (hnodup : xs.Nodup) (hroots : ∀ x ∈ xs, polyEval l x = 0#8) : xs.length ≤ t := by
  obtain ⟨F, _, φ, hφ⟩ := exists_readsSymbols
  classical
  by_contra hlong
  refine (exists_ne_zero_iff_toPoly hφ l).1 hne ?_
  refine Polynomial.eq_zero_of_degree_lt_of_eval_finset_eq_zero (xs.map φ).toFinset ?_ fun y hy => ?_
  · rw [List.toFinset_card_of_nodup (hnodup.map hφ.injective), List.length_map]
    exact (degree_toPoly_lt φ l).trans_le (Nat.cast_le.2 (by omega))
  · obtain ⟨x, hx, rfl⟩ := List.mem_map.1 (List.mem_toFinset.1 hy)
    exact (hφ.polyEval_eq_zero_iff l x).1 (hroots x hx)

/-- The rows of the key equation for a word (R81). -/
def locatorRows (e : List Byte) (nsym : Nat) : List (List Byte) := keyRows (nsym / 2) [] (syndromes e nsym)

theorem syndromes_eq (e : List Byte) (nsym : Nat) :
    syndromes e nsym = (List.range' 0 nsym).map fun j => polyEval e (gfPow 2#8 j) := by
  simp [syndromes, rsRoot, Config.rsAlpha, Config.rsFcr, List.range_eq_range']

theorem mem_locatorRows_iff (e : List Byte) (nsym : Nat) (row : List Byte) :
    row ∈ locatorRows e nsym
      ↔ ∃ j, nsym / 2 ≤ j ∧ j < nsym
          ∧ row = (List.range (nsym / 2 + 1)).map fun i => polyEval e (gfPow 2#8 (j - i)) := by
  have h := mem_keyRows_iff (fun j => polyEval e (gfPow 2#8 j)) (nsym / 2) 0 nsym row
  simpa [locatorRows, syndromes_eq] using h

/-- The polynomials that solve the key equation are those that vanish at the locators of the errors. -/
theorem locatorRows_null_iff (e l : List Byte) (nsym : Nat) (hlen : e.length ≤ 255) (hweight : weight e ≤ nsym / 2)
    (hl : l.length = nsym / 2 + 1) :
    (∀ row ∈ locatorRows e nsym, gfDot row l = 0#8) ↔ ∀ p ∈ errors e, polyEval l p.2 = 0#8 := by
  obtain ⟨F, _, φ, hφ⟩ := exists_readsSymbols
  have hrows : (∀ row ∈ locatorRows e nsym, gfDot row l = 0#8)
      ↔ ∀ m, nsym / 2 + m < nsym → powerSum φ (weighted l (errors e)) m = 0 := by
    have hindex : ∀ m i, m + (nsym / 2 + 1) - 1 - i = nsym / 2 + m - i := fun m i => by omega
    have hdot := fun m => hφ.gfDot_keyRow (fun j => polyEval e (gfPow 2#8 j)) (errors e) l m
      (hφ.polyEval_eq_powerSum_errors e)
    simp only [hl, hindex] at hdot
    simp only [mem_locatorRows_iff, ← hdot, hφ.eq_zero_iff]
    constructor
    · exact fun h m hm => h _ ⟨nsym / 2 + m, Nat.le_add_right .., hm, rfl⟩
    · rintro h row ⟨j, hj, hlt, rfl⟩
      obtain ⟨m, rfl⟩ := Nat.exists_eq_add_of_le hj
      exact h m hlt
  rw [hrows]
  constructor
  · intro h p hp
    have hzero := hφ.eq_zero_of_powerSum (weighted l (errors e)) (nsym - nsym / 2)
      (by simpa [weighted, Function.comp_def] using errors_nodup e hlen) (by simp [weighted]; omega)
      (fun j hj => h j (by omega)) _ (List.mem_map_of_mem hp)
    obtain ⟨-, hne⟩ := (mem_errors_iff e p).1 hp
    have hmul : φ p.1 * φ (polyEval l p.2) = 0 := by rw [← hφ.mul, hφ.eq_zero_iff]; exact hzero
    exact hφ.eq_zero_iff.1 ((mul_eq_zero.1 hmul).resolve_left (mt hφ.eq_zero_iff.1 hne))
  · intro h m _
    refine hφ.powerSum_eq_zero _ _ (List.forall_mem_map.2 fun p hp => ?_)
    rw [h p hp, gfMul_zero_right]

end Sys2Proof.Machine
end

section
/-! SUPPORT. The decoder's second linear system gives the error values, so the error word of every correctable word is
found, and the decoder is the bounded-distance decoder (spec/42_rs_codec.md R81, R82). -/

namespace Sys2Proof.Machine

/-! ### The rows of the error values -/

theorem mem_valueRows_iff (S : Nat → Byte) (xs : List Byte) (m k : Nat) (row : List Byte) :
    row ∈ valueRows xs (xs.map fun x => gfPow x m) ((List.range' m k).map S)
      ↔ ∃ j, m ≤ j ∧ j < m + k ∧ row = xs.map (fun x => gfPow x j) ++ [S j] := by
  induction k generalizing m with
  | zero => exact iff_of_false (by simp [valueRows]) fun ⟨j, hj, hlt, _⟩ => absurd hlt (Nat.not_lt.2 hj)
  | succ k ih =>
    have hnext : List.zipWith gfMul (xs.map fun x => gfPow x m) xs = xs.map fun x => gfPow x (m + 1) := by
      simp [List.zipWith_map_left, gfPow]
    rw [List.range'_succ, List.map_cons, valueRows, hnext, List.mem_cons, ih]
    constructor
    · rintro (rfl | ⟨j, hj, hlt, hrow⟩)
      · exact ⟨m, le_rfl, by omega, rfl⟩
      · exact ⟨j, by omega, by omega, hrow⟩
    · rintro ⟨j, hj, hlt, hrow⟩
      obtain rfl | hne := Nat.eq_or_lt_of_le hj
      · exact .inl hrow
      · exact .inr ⟨j, hne, by omega, hrow⟩

/-- The rows of the error values of a word, for supposed locators (R81). -/
def errorRows (e xs : List Byte) (nsym : Nat) : List (List Byte) :=
  valueRows xs (xs.map fun x => gfPow x Config.rsFcr) (syndromes e nsym)

theorem mem_errorRows_iff (e xs : List Byte) (nsym : Nat) (row : List Byte) :
    row ∈ errorRows e xs nsym
      ↔ ∃ j < nsym, row = xs.map (fun x => gfPow x j) ++ [polyEval e (gfPow 2#8 j)] := by
  have h := mem_valueRows_iff (fun j => polyEval e (gfPow 2#8 j)) xs 0 nsym row
  simpa [errorRows, syndromes_eq, Config.rsFcr] using h

theorem gfDot_concat (a b : List Byte) (x y : Byte) (h : a.length = b.length) :
    gfDot (a ++ [x]) (b ++ [y]) = gfDot a b ^^^ gfMul x y := by
  induction a generalizing b with
  | nil =>
    obtain rfl := List.length_eq_zero_iff.1 h.symm
    simp
  | cons c a ih =>
    obtain ⟨d, b, rfl⟩ := List.exists_cons_of_length_eq_add_one h.symm
    simp [ih b (by simpa using h), BitVec.xor_assoc]

theorem gfDot_comm (a b : List Byte) : gfDot a b = gfDot b a := by
  induction a generalizing b with
  | nil => simp
  | cons x a ih =>
    cases b with
    | nil => simp
    | cons y b => simp [ih b, gfMul_comm]

theorem ReadsSymbols.powerSum_zip {F : Type} [Field F] {φ : Byte → F} (hφ : ReadsSymbols φ) (a xs : List Byte)
    (j : Nat) : powerSum φ (a.zip xs) j = φ (gfDot a (xs.map fun x => gfPow x j)) := by
  induction a generalizing xs with
  | nil => simp [powerSum, hφ.zero]
  | cons c a ih =>
    cases xs with
    | nil => simp [powerSum, hφ.zero]
    | cons x xs =>
      have hrest := ih xs
      simp only [powerSum] at hrest
      simp [powerSum, hrest, hφ.xor, hφ.mul, hφ.pow]

/-- Values at different locators, at most N of them, are fixed by their first N power sums. -/
theorem eq_of_gfDot_eq (a b xs : List Byte) (N : Nat) (ha : a.length = xs.length) (hb : b.length = xs.length)
    (hnodup : xs.Nodup) (hlen : xs.length ≤ N)
    (h : ∀ j < N, gfDot a (xs.map fun x => gfPow x j) = gfDot b (xs.map fun x => gfPow x j)) : a = b := by
  obtain ⟨F, _, φ, hφ⟩ := exists_readsSymbols
  have hxor : (xorBytes a b).length = xs.length := by simp [xorBytes_length, ha, hb]
  have hzero := hφ.eq_zero_of_powerSum ((xorBytes a b).zip xs) N (by rwa [List.map_snd_zip hxor.ge])
    (by simpa [hxor] using hlen) fun j hj => by
      rw [hφ.powerSum_zip, gfDot_xorBytes a b _ (ha.trans hb.symm), h j hj, BitVec.xor_self, hφ.zero]
  refine eq_of_xorBytes_eq_zero a b (ha.trans hb.symm) fun x hx => ?_
  rw [← List.map_fst_zip hxor.le] at hx
  obtain ⟨p, hp, rfl⟩ := List.mem_map.1 hx
  exact hzero p hp

/-! ### The supposed errors -/

/-- The symbols of a word at the roots of a polynomial, each with its locator. -/
def supposed (l e : List Byte) : List (Byte × Byte) := (placed e).filter fun p => polyEval l p.2 == 0#8

theorem supposed_map_snd (l e : List Byte) :
    (supposed l e).map Prod.snd = (locators e.length).filter fun x => polyEval l x == 0#8 := by
  rw [← placed_map_snd, List.filter_map]
  rfl

/-- Where the polynomial vanishes at every error, a symbol at no root is 0. -/
theorem eq_zero_of_not_root (l e : List Byte) (h : ∀ p ∈ errors e, polyEval l p.2 = 0#8) (p : Byte × Byte)
    (hp : p ∈ placed e) (hq : polyEval l p.2 ≠ 0#8) : p.1 = 0#8 := by
  by_contra hne
  exact hq (h p ((mem_errors_iff e p).2 ⟨hp, hne⟩))

/-- When the polynomial vanishes at every error, the supposed errors have the word's syndromes. -/
theorem gfDot_supposed (l e : List Byte) (h : ∀ p ∈ errors e, polyEval l p.2 = 0#8) (j : Nat) :
    gfDot ((supposed l e).map Prod.fst) (((supposed l e).map Prod.snd).map fun x => gfPow x j)
      = polyEval e (gfPow 2#8 j) := by
  obtain ⟨F, _, φ, hφ⟩ := exists_readsSymbols
  apply hφ.injective
  rw [← hφ.powerSum_zip, ← List.zip_of_prod rfl rfl, hφ.polyEval_eq_powerSum, supposed,
    hφ.powerSum_filter _ _ _ fun p hp hq => eq_zero_of_not_root l e h p hp (by simpa using hq)]

/-- Spreading the symbols at marked positions gives the word back, when it is 0 at the others. -/
theorem scatter_filter (ps : List (Byte × Byte)) (q : Byte → Bool) (h : ∀ p ∈ ps, q p.2 = false → p.1 = 0#8) :
    scatter ((ps.map Prod.snd).map q) ((ps.filter fun p => q p.2).map Prod.fst) = ps.map Prod.fst := by
  induction ps with
  | nil => rfl
  | cons p ps ih =>
    obtain ⟨hp, hps⟩ := List.forall_mem_cons.1 h
    cases hq : q p.2 with
    | true => simpa [hq, scatter] using ih hps
    | false => simpa [hq, scatter, hp hq] using ih hps

/-- The solutions of the value system are the multiples of the error values followed by 1. -/
theorem errorRows_null_iff (l e w : List Byte) (last : Byte) (nsym : Nat) (hlen : e.length ≤ 255)
    (h : ∀ p ∈ errors e, polyEval l p.2 = 0#8) (hw : w.length = (supposed l e).length)
    (hfew : (supposed l e).length ≤ nsym) :
    (∀ row ∈ errorRows e ((supposed l e).map Prod.snd) nsym, gfDot row (w ++ [last]) = 0#8)
      ↔ w = ((supposed l e).map Prod.fst).map fun y => gfMul last y := by
  have hrow : ∀ j, gfDot (((supposed l e).map Prod.snd).map (fun x => gfPow x j) ++ [polyEval e (gfPow 2#8 j)])
        (w ++ [last]) = 0#8
      ↔ gfDot w (((supposed l e).map Prod.snd).map fun x => gfPow x j)
        = gfDot (((supposed l e).map Prod.fst).map fun y => gfMul last y)
            (((supposed l e).map Prod.snd).map fun x => gfPow x j) := fun j => by
    rw [gfDot_concat _ _ _ _ (by simp [hw]), BitVec.xor_eq_zero_iff, gfDot_map_gfMul, gfDot_supposed l e h,
      gfDot_comm, gfMul_comm]
  have hnodup : ((supposed l e).map Prod.snd).Nodup := by
    rw [supposed_map_snd]
    exact (locators_nodup _ hlen).filter _
  simp only [mem_errorRows_iff, forall_exists_index, and_imp]
  constructor
  · intro hall
    exact eq_of_gfDot_eq _ _ _ nsym (by simp [hw]) (by simp) hnodup (by simpa using hfew)
      fun j hj => (hrow j).1 (hall _ j hj rfl)
  · rintro hsol row j - rfl
    rw [hrow, ← hsol]

/-! ### The error word (R81) -/

/-- The key equation of a word of weight at most t has a solution, and the solution that is found vanishes at the
errors and at t locators at most. -/
theorem exists_found_locator (e : List Byte) (nsym : Nat) (hlen : e.length ≤ 255) (hweight : weight e ≤ nsym / 2) :
    ∃ l, nullVector (nsym / 2 + 1) (locatorRows e nsym) = some l ∧ (∀ p ∈ errors e, polyEval l p.2 = 0#8)
      ∧ (supposed l e).length ≤ nsym / 2 := by
  obtain ⟨l₀, hl₀, hne₀, hroots₀⟩ :=
    exists_locator ((errors e).map Prod.snd ++ List.replicate (nsym / 2 - weight e) 0#8)
  have hl₀ : l₀.length = nsym / 2 + 1 := by
    rw [hl₀, List.length_append, List.length_map, errors_length, List.length_replicate]
    omega
  have hnull₀ : ∀ row ∈ locatorRows e nsym, gfDot row l₀ = 0#8 :=
    (locatorRows_null_iff e l₀ nsym hlen hweight hl₀).2 fun p hp =>
      hroots₀ p.2 (List.mem_append_left _ (List.mem_map_of_mem hp))
  have hrows : ∀ row ∈ locatorRows e nsym, row.length = nsym / 2 + 1 := fun row hrow => by
    obtain ⟨j, -, -, rfl⟩ := (mem_locatorRows_iff e nsym row).1 hrow
    simp
  obtain ⟨l, hfound, hl, hne, hnull⟩ := exists_nullVector _ _ l₀ hrows ⟨hl₀, hne₀, hnull₀⟩
  refine ⟨l, hfound, (locatorRows_null_iff e l nsym hlen hweight hl).1 hnull, ?_⟩
  rw [← List.length_map (f := Prod.snd), supposed_map_snd]
  exact length_roots_le l _ _ hl hne ((locators_nodup _ hlen).filter _) fun x hx => by
    simpa using (List.mem_filter.1 hx).2

/-- Dividing by the last entry undoes the multiplication with it. -/
theorem map_gfMul_gfInv (a : List Byte) (last : Byte) (h : last ≠ 0#8) :
    (a.map fun y => gfMul last y).map (fun y => gfMul y (gfInv last)) = a := by
  have hone : ∀ y, gfMul (gfMul last y) (gfInv last) = y := fun y => by
    rw [gfMul_comm last, gfMul_assoc, gfMul_gfInv last h, gfMul_one_right]
  rw [List.map_map]
  exact List.map_id'' hone a

/-- The value system has a solution, and the solution that is found is a nonzero multiple of the error values and 1. -/
theorem exists_found_values (l e : List Byte) (nsym : Nat) (hlen : e.length ≤ 255)
    (h : ∀ p ∈ errors e, polyEval l p.2 = 0#8) (hfew : (supposed l e).length ≤ nsym) :
    ∃ last, last ≠ 0#8
      ∧ nullVector ((supposed l e).length + 1) (errorRows e ((supposed l e).map Prod.snd) nsym)
        = some (((supposed l e).map Prod.fst).map (fun y => gfMul last y) ++ [last]) := by
  have hnull₀ : ∀ row ∈ errorRows e ((supposed l e).map Prod.snd) nsym,
      gfDot row ((supposed l e).map Prod.fst ++ [1#8]) = 0#8 :=
    (errorRows_null_iff l e _ 1#8 nsym hlen h (by simp) hfew).2 (by simp)
  have hrows : ∀ row ∈ errorRows e ((supposed l e).map Prod.snd) nsym,
      row.length = (supposed l e).length + 1 := fun row hrow => by
    obtain ⟨j, -, rfl⟩ := (mem_errorRows_iff e _ nsym row).1 hrow
    simp
  obtain ⟨v, hfound, hv, ⟨x, hx, hne⟩, hnull⟩ :=
    exists_nullVector _ _ _ hrows ⟨by simp, ⟨1#8, by simp, by decide⟩, hnull₀⟩
  obtain ⟨w, last, rfl⟩ : ∃ w last, v = w ++ [last] :=
    ⟨_, _, (List.dropLast_append_getLast (List.ne_nil_of_length_pos (by omega))).symm⟩
  have hw := (errorRows_null_iff l e w last nsym hlen h (by simpa using hv) hfew).1 hnull
  rw [hw] at hfound hx
  refine ⟨last, ?_, hfound⟩
  rintro rfl
  obtain hx | hx := List.mem_append.1 hx
  · obtain ⟨y, -, rfl⟩ := List.mem_map.1 hx
    exact hne (gfMul_zero_left y)
  · exact hne (List.mem_singleton.1 hx)

/-- The error word of weight at most t is found from its syndromes. -/
theorem errorWord_syndromes (e : List Byte) (nsym : Nat) (hlen : e.length ≤ 255) (hweight : weight e ≤ nsym / 2) :
    errorWord e.length nsym (syndromes e nsym) = some e := by
  obtain ⟨l, hlocator, hroots, hfew⟩ := exists_found_locator e nsym hlen hweight
  obtain ⟨last, hlast, hvalues⟩ := exists_found_values l e nsym hlen hroots (by omega)
  have hlocators : (locators e.length).filter (fun x => polyEval l x == 0#8) = (supposed l e).map Prod.snd :=
    (supposed_map_snd l e).symm
  have hscatter := scatter_filter (placed e) (fun x => polyEval l x == 0#8) fun p hp hq =>
    eq_zero_of_not_root l e hroots p hp (by simpa using hq)
  rw [placed_map_snd, placed_map_fst] at hscatter
  rw [locatorRows] at hlocator
  rw [errorRows] at hvalues
  rw [errorWord, hlocator]
  dsimp only
  rw [hlocators, List.length_map, hvalues]
  dsimp only
  rw [List.getLastD_concat, if_neg hlast, List.take_left' (by simp), map_gfMul_gfInv _ _ hlast]
  exact congrArg some hscatter

/-! ### The decoder (R81, R82) -/

theorem syndromes_of_codeword (r c : List Byte) (nsym : Nat) (hlen : r.length = c.length)
    (hc : ∀ j < nsym, polyEval c (gfPow 2#8 j) = 0#8) : syndromes r nsym = syndromes (xorBytes r c) nsym := by
  simp only [syndromes_eq, List.map_inj_left, polyEval_xorBytes r c hlen]
  intro j hj
  rw [hc j (by simpa using hj), BitVec.xor_zero]

theorem xorBytes_cancel (r c : List Byte) (hlen : r.length = c.length) : xorBytes r (xorBytes r c) = c := by
  induction r generalizing c with
  | nil => exact (List.length_eq_zero_iff.1 hlen.symm).symm
  | cons x r ih =>
    obtain ⟨y, c, rfl⟩ := List.exists_cons_of_length_eq_add_one hlen.symm
    have hrest : List.zipWith (fun x y => x ^^^ y) r (List.zipWith (fun x y => x ^^^ y) r c) = c :=
      ih c (by simpa using hlen)
    simp [xorBytes, hrest]

/-- Every codeword within t is found (R81). -/
theorem rsDec_of_dist_le (r m : List Byte) (nsym : Nat) (hr : r.length ≤ 255) (hm : m.length + nsym = r.length)
    (hdist : dist r (rsEnc m nsym) ≤ nsym / 2) : rsDec r nsym = .ok m (dist r (rsEnc m nsym)) := by
  have hlen : r.length = (rsEnc m nsym).length := by simp [hm]
  have hk : r.length - nsym = m.length := by omega
  have hroots : ∀ j < nsym, polyEval (rsEnc m nsym) (gfPow 2#8 j) = 0#8 := fun j hj => polyEval_rsEnc m nsym j hj
  have htake : (rsEnc m nsym).take m.length = m := by simp [rsEnc]
  rw [rsDec, hk]
  dsimp only
  split
  · rename_i hcode
    have hvanish : ∀ j < nsym, polyEval r (gfPow 2#8 j) = 0#8 := fun j hj => by
      rw [← hcode]
      exact polyEval_rsEnc _ nsym j hj
    have hsame := eq_of_dist_le r _ nsym hlen hr (by omega) hvanish hroots
    rw [← hsame] at htake ⊢
    rw [htake, dist_self]
  · have hweight : weight (xorBytes r (rsEnc m nsym)) ≤ nsym / 2 := by rwa [← dist_eq_weight r _ hlen]
    have hxor : (xorBytes r (rsEnc m nsym)).length = r.length := by rw [xorBytes_length, ← hlen, min_self]
    have hfound := errorWord_syndromes _ nsym (hxor ▸ hr) hweight
    rw [hxor, ← syndromes_of_codeword r _ nsym hlen hroots] at hfound
    rw [hfound]
    dsimp only
    rw [xorBytes_cancel r _ hlen, htake, if_pos hdist]

theorem scatter_length (marks : List Bool) (vs : List Byte) : (scatter marks vs).length = marks.length := by
  induction marks generalizing vs with
  | nil => rfl
  | cons b marks ih => cases b <;> cases vs <;> simp [scatter, ih]

theorem errorWord_length (n nsym : Nat) (synd e : List Byte) (h : errorWord n nsym synd = some e) : e.length = n := by
  unfold errorWord at h
  split at h
  · cases h
  · dsimp only at h
    split at h
    · cases h
    · split at h
      · cases h
      · obtain rfl := Option.some.inj h
        simp [scatter_length]

/-- Every OK answer is right (R81). -/
theorem rsDec_ok (r m : List Byte) (nsym c : Nat) (h : rsDec r nsym = .ok m c) :
    m.length = r.length - nsym ∧ c = dist r (rsEnc m nsym) ∧ c ≤ nsym / 2 := by
  unfold rsDec at h
  dsimp only at h
  split at h
  · rename_i hcode
    cases h
    exact ⟨by simp, by rw [hcode, dist_self], Nat.zero_le _⟩
  · split at h
    · cases h
    · rename_i e he
      split at h
      · rename_i hdist
        cases h
        exact ⟨by simp [xorBytes_length, errorWord_length _ _ _ _ he], rfl, hdist⟩
      · cases h

/-- Settles O33: every codeword within t is found, and an OK answer names one. -/
theorem decoderIsBoundedDistance : Obligations.DecoderIsBoundedDistance := by
  refine fun r nsym _ hn hr => ⟨fun m hm hdist => rsDec_of_dist_le r m nsym hr (by omega) hdist, fun hfar => ?_⟩
  cases hdec : rsDec r nsym with
  | fail => rfl
  | ok m c =>
    obtain ⟨hm, rfl, hc⟩ := rsDec_ok r m nsym c hdec
    exact absurd hc (Nat.not_le.2 (hfar m hm))

theorem rsDec_rsEnc (m : List Byte) (nsym : Nat) : rsDec (rsEnc m nsym) nsym = .ok m 0 := by
  have htake : (rsEnc m nsym).take ((rsEnc m nsym).length - nsym) = m := by simp [rsEnc]
  rw [rsDec, htake]
  exact if_pos rfl

theorem dist_eq_length_filter (a b : List Byte) (h : a.length = b.length) :
    dist a b = ((a.zip b).filter fun e => e.1 != e.2).length := by
  induction a generalizing b with
  | nil => rfl
  | cons x a ih =>
    obtain ⟨y, b, rfl⟩ := List.exists_cons_of_length_eq_add_one h.symm
    have hrest := ih b (by simpa using h)
    by_cases hxy : x = y
    · simp [dist, hxy, hrest]
    · simp [dist, hxy, hrest, Nat.add_comm]

/-- Settles O34: an answer names a codeword within t, and a codeword is answered before any error is looked for. -/
theorem decoderAnswersAreVerified : Obligations.DecoderAnswersAreVerified :=
  ⟨dist_eq_length_filter, fun r nsym _ => ⟨fun m c h => rsDec_ok r m nsym c h, fun m => rsDec_rsEnc m nsym⟩⟩

end Sys2Proof.Machine
end

section
/-! SUPPORT. The block partition: its bounds, the wire size, and the PART_* registers (spec/42_rs_codec.md R84 to R87,
R90). -/

namespace Sys2Proof.Machine

/-! ### The blocks (R84, R86) -/

/-- The counts of large and small blocks make up the block count. -/
theorem largeCnt_add_smallCnt (len : Nat) :
    (partition len).largeCnt + (partition len).smallCnt = (partition len).blockCnt := by
  rw [← blockLens_length, blockLens, List.length_append, List.length_replicate, List.length_replicate]

/-- Block i is large exactly below the number of large blocks (R84). -/
theorem blockLens_getD (len i : Nat) (hi : i < (partition len).blockCnt) :
    (blockLens len).getD i 0
      = if i < (partition len).largeCnt then (partition len).largeLen else (partition len).smallLen := by
  have hcnt := largeCnt_add_smallCnt len
  rw [blockLens]
  split
  · rename_i hlarge
    rw [List.getD_append _ _ _ _ (by simpa using hlarge), List.getD_replicate _ hlarge]
  · rename_i hsmall
    rw [List.getD_append_right _ _ _ _ (by simpa using hsmall), List.length_replicate,
      List.getD_replicate _ (by omega)]

/-- The block lengths add up to the length (R86). -/
theorem partition_sum (len : Nat) :
    (partition len).largeCnt * (partition len).largeLen + (partition len).smallCnt * (partition len).smallLen
      = len := by
  have h := blockLens_sum len
  simpa only [blockLens, List.sum_append, List.sum_replicate, smul_eq_mul] using h

/-- At least one block is small (R86). -/
theorem largeCnt_lt_blockCnt (len : Nat) (h : 0 < len) : (partition len).largeCnt < (partition len).blockCnt := by
  rw [partition_of_pos len h]
  exact mod_blockCnt_lt len h

/-! ### The wire size (R85) -/

theorem rawSize_of_pos (len : Nat) (h : 0 < len) :
    rawSize len = len + (len + 204) / 205 * (len / ((len + 204) / 205) / 5 + 10) := by
  rw [rawSize, partition_of_pos len h]

/-- One byte more makes the wire size larger: with as many blocks the parity does not shrink, and where a block is added
the smaller blocks' parity runs still outweigh the larger ones'. -/
theorem rawSize_lt_succ (len : Nat) (h : len < 1023) : rawSize len < rawSize (len + 1) := by
  obtain rfl | hpos := Nat.eq_zero_or_pos len
  · decide
  · rw [rawSize_of_pos len hpos, rawSize_of_pos (len + 1) (Nat.succ_pos _)]
    obtain ⟨n, hn⟩ : ∃ n, (len + 204) / 205 = n := ⟨_, rfl⟩
    have hnext : (len + 1 + 204) / 205 = n ∨ ((len + 1 + 204) / 205 = n + 1 ∧ len = 205 * n) := by omega
    have hlow : 1 ≤ n := by omega
    have hhigh : n ≤ 5 := by omega
    rw [hn]
    obtain hsame | ⟨hmore, hlen⟩ := hnext
    · rw [hsame]
      interval_cases n <;> omega
    · rw [hmore, hlen]
      interval_cases n <;> omega

/-- raw(L) is strictly increasing up to MAX_PAYLOAD (R85). -/
theorem rawSize_lt (a b : Nat) (hab : a < b) (hb : b ≤ 1023) : rawSize a < rawSize b := by
  induction b, hab using Nat.le_induction with
  | base => exact rawSize_lt_succ a hb
  | succ b _ ih => exact (ih (by omega)).trans (rawSize_lt_succ b hb)

theorem sizeRefused_eq_false (len : Nat) (h : len ≤ 1023) (hover : overlong len = false) : sizeRefused len = false := by
  rw [← Bool.not_eq_true, sizeRefused_eq_true_iff, hover]
  simpa using h

/-- Settles O35: each bound is one of the partition's, and the overlong lengths are the multiples of 205. -/
theorem partitionBounds : Obligations.PartitionBounds := by
  refine ⟨fun len hpos => partition_of_pos len hpos,
    fun len => ⟨blockLens_length len, fun i hi => blockLens_getD len i hi⟩,
    fun len hpos hlen =>
      ⟨partition_sum len, largeCnt_lt_blockCnt len hpos, ?small, ?blocks, ?smallLen, ?ecc, ?overlong⟩,
    fun len _ _ => rfl, rawSize_lt, by decide, by decide⟩
  case small =>
    have hcnt := largeCnt_add_smallCnt len
    have hlt := largeCnt_lt_blockCnt len hpos
    omega
  case blocks =>
    rw [partition_of_pos len hpos]
    dsimp only
    omega
  case smallLen =>
    obtain ⟨hsmall, -⟩ := smallLen_bounds len hpos
    rw [partition_of_pos len hpos]
    exact hsmall
  case ecc =>
    obtain ⟨hsmall, -⟩ := smallLen_bounds len hpos
    rw [partition_of_pos len hpos]
    dsimp only
    omega
  case overlong =>
    rw [overlong_iff_dvd]
    omega

/-! ### RAW_SIZE (R90) -/

theorem overlong_of_pos (len : Nat) (h : 0 < len) :
    overlong len
      = decide (255 < (if 0 < (partition len).largeCnt then (partition len).largeLen else (partition len).smallLen)
          + (partition len).ecc) := by
  rw [overlong, decide_eq_true (show 1 ≤ len from h), Bool.true_and]
  rfl

theorem exec_rawSize (s : State) : exec .rawSize s = execRawSize s := rfl

/-- The formulas of R84 as the specification writes them. -/
theorem partition_of_ne_zero (len : Nat) (h : len ≠ 0) :
    partition len
      = let blocks := (len + 204) / 205
        let largeCnt := len - blocks * (len / blocks)
        ⟨blocks, len / blocks, len / blocks + 1, blocks - largeCnt, largeCnt, len / blocks / 5 + 10⟩ := if_neg h

/-- Settles O10: the command writes the registers of its length, which are the formulas of R84. -/
theorem rawSizeWritesPartition : Obligations.RawSizeWritesPartition := by
  unfold Obligations.RawSizeWritesPartition
  intro regs
  have hregs : ∀ len, partRegsOf len = regs len := fun len => by
    obtain rfl | hpos := Nat.eq_zero_or_pos len
    · rfl
    · simp only [partRegsOf, rawSize, overlong_of_pos len hpos, oversize, partition_of_ne_zero len hpos.ne', regs,
        if_neg hpos.ne']
      rfl
  refine ⟨fun s hrx => ?hazard, fun s hrx => ?partition, hregs⟩
  case hazard =>
    rw [exec_rawSize, execRawSize]
    refine runCommand_contract _ _ _ s .eHazard ?_ rfl
    rw [hazardCheck, hrx]
    rfl
  case partition =>
    rw [← hregs]
    refine runCommand_executed _ _ _ _ _ .ok ?_ rfl
    rw [hazardCheck_of_disabled s hrx]
    rfl

end Sys2Proof.Machine
end

section
/-! SUPPORT. The payload codec block by block, and the codec commands
(spec/42_rs_codec.md R83, R88, R89, R91 to R96). -/

namespace Sys2Proof.Machine

/-! ### The blocks on the wire (R84) -/

/-- Block i's codeword in an encoded sequence of blocks. -/
def codewordAt (ecc : Nat) (lens : List Nat) (i : Nat) (wire : List Byte) : List Byte :=
  (wire.drop ((lens.take i).sum + i * ecc)).take (lens.getD i 0 + ecc)

theorem wireBlock_eq (len i : Nat) (wire : List Byte) :
    wireBlock len i wire = codewordAt (partition len).ecc (blockLens len) i wire := rfl

@[simp] theorem codewordAt_zero (ecc n : Nat) (lens : List Nat) (wire : List Byte) :
    codewordAt ecc (n :: lens) 0 wire = wire.take (n + ecc) := by
  simp [codewordAt]

@[simp] theorem codewordAt_succ (ecc n : Nat) (lens : List Nat) (i : Nat) (wire : List Byte) :
    codewordAt ecc (n :: lens) (i + 1) wire = codewordAt ecc lens i (wire.drop (n + ecc)) := by
  have hstart : ((n :: lens).take (i + 1)).sum + (i + 1) * ecc = n + ecc + ((lens.take i).sum + i * ecc) := by
    rw [List.take_succ_cons, List.sum_cons]
    ring
  rw [codewordAt, hstart, codewordAt, List.drop_drop, List.getD_cons_succ]

/-! ### Encoding (R88) -/

theorem encBlocks_length (ecc : Nat) (lens : List Nat) (data : List Byte) (h : data.length = lens.sum) :
    (encBlocks ecc lens data).length = lens.sum + lens.length * ecc := by
  induction lens generalizing data with
  | nil => simp [encBlocks]
  | cons n lens ih =>
    rw [List.sum_cons] at h
    have hrest := ih (data.drop n) (by rw [List.length_drop]; omega)
    simp only [encBlocks, List.length_append, rsEnc_length, List.length_take, hrest, List.sum_cons, List.length_cons,
      Nat.succ_mul]
    omega

/-- Block i of the encoded payload is the codeword of block i of the payload. -/
theorem codewordAt_encBlocks (ecc : Nat) (lens : List Nat) (data : List Byte) (i : Nat) (h : data.length = lens.sum)
    (hi : i < lens.length) :
    codewordAt ecc lens i (encBlocks ecc lens data)
      = rsEnc ((data.drop (lens.take i).sum).take (lens.getD i 0)) ecc := by
  induction lens generalizing data i with
  | nil => cases hi
  | cons n lens ih =>
    rw [List.sum_cons] at h
    have hfirst : (rsEnc (data.take n) ecc).length = n + ecc := by
      rw [rsEnc_length, List.length_take]
      omega
    cases i with
    | zero =>
      rw [codewordAt_zero, encBlocks, List.take_left' hfirst]
      simp
    | succ i =>
      rw [codewordAt_succ, encBlocks, List.drop_left' hfirst,
        ih (data.drop n) i (by rw [List.length_drop]; omega) (by simpa using hi)]
      simp

/-! ### Decoding (R89) -/

theorem decBlocks_cons_ok (ecc n : Nat) (lens : List Nat) (i : Nat) (wire d : List Byte) (k c : Nat)
    (h : rsDec (wire.take (n + ecc)) ecc = .ok d c) :
    decBlocks ecc (n :: lens) i wire k
      = let r := decBlocks ecc lens (i + 1) (wire.drop (n + ecc)) k
        ⟨r.ok, d ++ r.data, r.failMask, c + r.corr, r.draws⟩ := by
  rw [decBlocks, h]

theorem decBlocks_cons_fail (ecc n : Nat) (lens : List Nat) (i : Nat) (wire : List Byte) (k : Nat)
    (h : rsDec (wire.take (n + ecc)) ecc = .fail) :
    decBlocks ecc (n :: lens) i wire k
      = let r := decBlocks ecc lens (i + 1) (wire.drop (n + ecc)) (k + n)
        ⟨false, drawBytes k n ++ r.data, r.failMask ||| (1#32 <<< i), r.corr, r.draws⟩ := by
  rw [decBlocks, h]

/-- The wire bytes of a sequence of blocks. -/
def FillsBlocks (ecc : Nat) (lens : List Nat) (wire : List Byte) : Prop :=
  wire.length = lens.sum + lens.length * ecc

theorem fillsBlocks_cons (ecc n : Nat) (lens : List Nat) (wire : List Byte) (h : FillsBlocks ecc (n :: lens) wire) :
    (wire.take (n + ecc)).length = n + ecc ∧ FillsBlocks ecc lens (wire.drop (n + ecc)) := by
  simp only [FillsBlocks, List.sum_cons, List.length_cons, Nat.succ_mul, List.length_take, List.length_drop] at h ⊢
  omega

/-- A block that decodes gives as many bytes as its length says. -/
theorem rsDec_block_length (ecc n : Nat) (lens : List Nat) (wire d : List Byte) (c : Nat)
    (hwire : FillsBlocks ecc (n :: lens) wire) (h : rsDec (wire.take (n + ecc)) ecc = .ok d c) : d.length = n := by
  obtain ⟨hd, -⟩ := rsDec_ok _ _ _ _ h
  obtain ⟨hfirst, -⟩ := fillsBlocks_cons ecc n lens wire hwire
  omega

theorem decBlocks_data_length (ecc : Nat) (lens : List Nat) (i : Nat) (wire : List Byte) (k : Nat)
    (hwire : FillsBlocks ecc lens wire) : (decBlocks ecc lens i wire k).data.length = lens.sum := by
  induction lens generalizing i wire k with
  | nil => rfl
  | cons n lens ih =>
    obtain ⟨-, hrest⟩ := fillsBlocks_cons ecc n lens wire hwire
    cases hdec : rsDec (wire.take (n + ecc)) ecc with
    | ok d c =>
      rw [decBlocks_cons_ok _ _ _ _ _ _ _ _ hdec]
      simp [ih _ _ _ hrest, rsDec_block_length ecc n lens wire d c hwire hdec]
    | fail =>
      rw [decBlocks_cons_fail _ _ _ _ _ _ hdec]
      simp [ih _ _ _ hrest]

/-- Bit j of 1 shifted up by i. -/
theorem getLsbD_one_shiftLeft (i j : Nat) (hj : j < 32) : (1#32 <<< i).getLsbD j = decide (j = i) := by
  rw [← BitVec.twoPow_eq, BitVec.getLsbD_twoPow]
  by_cases h : i = j
  · simp [h, hj]
  · simp [h, Ne.symm h]

/-- `ok` says that no fail bit is set (R89). -/
theorem decBlocks_ok_iff (ecc : Nat) (lens : List Nat) (i : Nat) (wire : List Byte) (k : Nat)
    (hbits : i + lens.length ≤ 32) :
    (decBlocks ecc lens i wire k).ok = true ↔ (decBlocks ecc lens i wire k).failMask = 0#32 := by
  induction lens generalizing i wire k with
  | nil => exact iff_of_true rfl rfl
  | cons n lens ih =>
    rw [List.length_cons] at hbits
    cases hdec : rsDec (wire.take (n + ecc)) ecc with
    | ok d c =>
      rw [decBlocks_cons_ok _ _ _ _ _ _ _ _ hdec]
      exact ih _ _ _ (by omega)
    | fail =>
      rw [decBlocks_cons_fail _ _ _ _ _ _ hdec]
      refine iff_of_false Bool.false_ne_true fun hmask => ?_
      have hbit := congrArg (fun v => v.getLsbD i) hmask
      simp [getLsbD_one_shiftLeft i i (by omega)] at hbit

/-- The number of symbols an answer of the decoder corrects, 0 for FAIL. -/
def RsResult.corrections : RsResult → Nat
  | .ok _ c => c
  | .fail => 0

theorem decBlocks_corr (ecc : Nat) (lens : List Nat) (i : Nat) (wire : List Byte) (k : Nat) :
    (decBlocks ecc lens i wire k).corr
      = ((List.range lens.length).map fun j => (rsDec (codewordAt ecc lens j wire) ecc).corrections).sum := by
  induction lens generalizing i wire k with
  | nil => rfl
  | cons n lens ih =>
    rw [List.length_cons, List.range_succ_eq_map, List.map_cons, List.sum_cons, List.map_map, codewordAt_zero]
    simp only [Function.comp_def, Nat.succ_eq_add_one, codewordAt_succ]
    cases hdec : rsDec (wire.take (n + ecc)) ecc with
    | ok d c =>
      rw [decBlocks_cons_ok _ _ _ _ _ _ _ _ hdec]
      exact congrArg (c + ·) (ih _ _ _)
    | fail =>
      rw [decBlocks_cons_fail _ _ _ _ _ _ hdec]
      exact (ih _ _ _).trans (Nat.zero_add _).symm

/-- The fail bits below the first block's number are 0. -/
theorem decBlocks_failMask_low (ecc : Nat) (lens : List Nat) (i : Nat) (wire : List Byte) (k j : Nat) (hj : j < i)
    (hbits : i + lens.length ≤ 32) : (decBlocks ecc lens i wire k).failMask.getLsbD j = false := by
  induction lens generalizing i wire k with
  | nil => exact BitVec.getLsbD_zero
  | cons n lens ih =>
    rw [List.length_cons] at hbits
    cases hdec : rsDec (wire.take (n + ecc)) ecc with
    | ok d c =>
      rw [decBlocks_cons_ok _ _ _ _ _ _ _ _ hdec]
      exact ih _ _ _ (by omega) (by omega)
    | fail =>
      rw [decBlocks_cons_fail _ _ _ _ _ _ hdec]
      simp [ih _ _ _ (Nat.lt_succ_of_lt hj) (by omega), getLsbD_one_shiftLeft i j (by omega), hj.ne]

/-- A block's fail bit is set exactly when the block does not decode (R89). -/
theorem decBlocks_failMask (ecc : Nat) (lens : List Nat) (i : Nat) (wire : List Byte) (k j : Nat) (hj : j < lens.length)
    (hbits : i + lens.length ≤ 32) :
    (decBlocks ecc lens i wire k).failMask.getLsbD (i + j)
      = decide (rsDec (codewordAt ecc lens j wire) ecc = .fail) := by
  induction lens generalizing i wire k j with
  | nil => cases hj
  | cons n lens ih =>
    rw [List.length_cons] at hbits hj
    cases hdec : rsDec (wire.take (n + ecc)) ecc with
    | ok d c =>
      rw [decBlocks_cons_ok _ _ _ _ _ _ _ _ hdec]
      cases j with
      | zero => simpa [hdec] using decBlocks_failMask_low _ _ _ _ _ _ (Nat.lt_succ_self i) (by omega)
      | succ j =>
        rw [codewordAt_succ, ← ih (i + 1) _ k j (by omega) (by omega), Nat.add_right_comm, Nat.add_assoc]
    | fail =>
      rw [decBlocks_cons_fail _ _ _ _ _ _ hdec]
      cases j with
      | zero => simp [hdec, getLsbD_one_shiftLeft i i (by omega)]
      | succ j =>
        rw [codewordAt_succ, ← ih (i + 1) _ (k + n) j (by omega) (by omega), Nat.add_right_comm, Nat.add_assoc]
        simp [getLsbD_one_shiftLeft i (i + (j + 1)) (by omega)]

/-- A block that decodes puts its message at its place (R89). -/
theorem decBlocks_data (ecc : Nat) (lens : List Nat) (i : Nat) (wire : List Byte) (k j : Nat) (m : List Byte) (c : Nat)
    (hj : j < lens.length) (hwire : FillsBlocks ecc lens wire) (h : rsDec (codewordAt ecc lens j wire) ecc = .ok m c) :
    ((decBlocks ecc lens i wire k).data.drop (lens.take j).sum).take (lens.getD j 0) = m := by
  induction lens generalizing i wire k j with
  | nil => cases hj
  | cons n lens ih =>
    obtain ⟨-, hrest⟩ := fillsBlocks_cons ecc n lens wire hwire
    cases hdec : rsDec (wire.take (n + ecc)) ecc with
    | ok d c' =>
      have hd := rsDec_block_length ecc n lens wire d c' hwire hdec
      rw [decBlocks_cons_ok _ _ _ _ _ _ _ _ hdec]
      cases j with
      | zero =>
        rw [codewordAt_zero, hdec] at h
        cases h
        simp [← hd]
      | succ j =>
        rw [codewordAt_succ] at h
        rw [← ih (i + 1) _ k j (by simpa using hj) hrest h]
        simp [← hd]
    | fail =>
      rw [decBlocks_cons_fail _ _ _ _ _ _ hdec]
      cases j with
      | zero =>
        rw [codewordAt_zero, hdec] at h
        cases h
      | succ j =>
        rw [codewordAt_succ] at h
        rw [← ih (i + 1) _ (k + n) j (by simpa using hj) hrest h]
        simp [← List.drop_drop]

/-- Settles O36: the decoder of the blocks, at the partition of the length. -/
theorem payloadBlocksDecodeIndependently : Obligations.PayloadBlocksDecodeIndependently := by
  intro wire len k hlen hover hwire
  have hbits : 0 + (blockLens len).length ≤ 32 := by
    have hcnt := blockCnt_le_five len (sizeRefused_eq_false len hlen hover)
    rw [blockLens_length]
    omega
  have hfills : FillsBlocks (partition len).ecc (blockLens len) wire := by
    rw [FillsBlocks, blockLens_sum, blockLens_length]
    exact hwire
  have hmask := fun i hi => decBlocks_failMask (partition len).ecc (blockLens len) 0 wire k i hi hbits
  simp only [Nat.zero_add] at hmask
  refine ⟨(decBlocks_data_length _ _ _ _ _ hfills).trans (blockLens_sum len), decBlocks_ok_iff _ _ _ _ _ hbits,
    (decBlocks_corr _ _ _ _ _).trans rfl, fun i hi => ⟨fun m c hok => ⟨?_, ?_⟩, fun hfail => ?_⟩⟩
  · exact (hmask i hi).trans (decide_eq_false (by rw [← wireBlock_eq, hok]; nofun))
  · exact decBlocks_data _ _ _ _ _ _ m c hi hfills hok
  · exact (hmask i hi).trans (decide_eq_true hfail)

/-! ### The commands (R91 to R96) -/

/-- The completion with a channel-class code, as one record (R143). -/
theorem complete_channel (s : State) (opc : Byte) (code : ResultCode) (hclass : code.isContract = false)
    (hne : code ≠ .ok) : s.complete opc code = channelDone opc code.value s := by
  simp [State.complete, channelDone, hclass, hne, BitVec.or_assoc, Ev.cmdDone, Ev.cmdErr]

/-- A command whose checks pass and whose execution answers a channel-class code. -/
theorem runCommand_channel (opc : Byte) (checks : List Check) (e : Execution) (s s' : State) (code : ResultCode)
    (hpass : firstFailure checks = none) (he : e = .ok (code, s')) (hclass : code.isContract = false)
    (hne : code ≠ .ok) : runCommand opc checks e s = .next (channelDone opc code.value s') := by
  rw [runCommand_executed _ _ _ _ _ _ hpass he, complete_channel _ _ _ hclass hne]

theorem rsDecode_checks_pass (s : State) (hrx : s.rxEn = false) (hnsym : 1 ≤ s.nsym) (hn : s.nsym + 1 ≤ s.len)
    (hmax : s.len ≤ 255) (hsrc : s.src + s.len ≤ 8192) (hdst : s.dst + (s.len - s.nsym) ≤ 8192) :
    firstFailure [hazardCheck s, (rsDecodeParamsBad s.len s.nsym, .eRsParam), rangeCheck s.src s.len,
      rangeCheck s.dst (s.len - s.nsym)] = none := by
  rw [hazardCheck_of_disabled s hrx, rsDecodeParamsBad_eq_false _ _ hnsym hn hmax]
  exact firstFailure_ranges_of_le _ _ _ _ [] hsrc hdst

/-- Settles O12: the checks pass, and each command executes on the bytes it reads. -/
theorem rsCommandsStore : Obligations.RsCommandsStore := by
  refine ⟨fun s m hk hnsym hmax hsrc hdst hfree hread => ?encode, fun s r hrx hnsym hn hmax hsrc hdst hread =>
    ⟨fun d c hok => ?decodes, fun hfail => ?fails⟩⟩
  case encode =>
    refine runCommand_executed _ _ _ _ _ .ok ?_ (withBytes_some _ _ _ _ _ hread)
    rw [rsEncodeParamsBad_eq_false _ _ hk hnsym hmax]
    exact firstFailure_ranges_of_free s _ _ _ hsrc hdst hfree
  case decodes =>
    refine runCommand_executed _ _ _ _ _ .ok (rsDecode_checks_pass s hrx hnsym hn hmax hsrc hdst)
      ((withBytes_some _ _ _ _ _ hread).trans ?_)
    rw [hok]
  case fails =>
    refine runCommand_channel _ _ _ _ _ .rsFail (rsDecode_checks_pass s hrx hnsym hn hmax hsrc hdst)
      ((withBytes_some _ _ _ _ _ hread).trans ?_) rfl nofun
    rw [hfail]

theorem hdrDecode_checks_pass (s : State) (hrx : s.rxEn = false) (hsrc : s.src + 64 ≤ 8192) (hdst : s.dst + 32 ≤ 8192) :
    firstFailure [hazardCheck s, rangeCheck s.src Config.hdrRaw, rangeCheck s.dst Config.hdrLen] = none := by
  rw [hazardCheck_of_disabled s hrx]
  exact firstFailure_ranges_of_le _ _ _ _ [] hsrc hdst

/-- Settles O13: the checks pass, and each command executes on the header it reads. -/
theorem headerCodecStores : Obligations.HeaderCodecStores := by
  refine ⟨fun s h hsrc hdst hfree hread => ?encode, fun s r hrx hsrc hdst hread =>
    ⟨fun d c hok => ?decodes, fun hfail => ?fails⟩⟩
  case encode =>
    exact runCommand_executed _ _ _ _ _ .ok (firstFailure_ranges_of_free s _ _ _ hsrc hdst hfree)
      (withBytes_some _ _ _ _ _ hread)
  case decodes =>
    refine runCommand_executed _ _ _ _ _ .ok (hdrDecode_checks_pass s hrx hsrc hdst)
      ((withBytes_some _ _ _ _ _ hread).trans ?_)
    rw [hdrDec, show rsDec r Config.hdrEcc = _ from hok]
  case fails =>
    refine runCommand_channel _ _ _ _ _ .hdrRsFail (hdrDecode_checks_pass s hrx hsrc hdst)
      ((withBytes_some _ _ _ _ _ hread).trans ?_) rfl nofun
    rw [hdrDec, show rsDec r Config.hdrEcc = _ from hfail]

/-- Settles O14: the checks pass and each command executes, and the encoded payload is made of its blocks' codewords. -/
theorem payloadCommandsStore : Obligations.PayloadCommandsStore := by
  refine ⟨fun s p hlen hover hsrc hdst hfree hread => ?encode, fun p hlen => ⟨?length, fun i hi => ?block⟩,
    fun s wire hrx hlen hover hsrc hdst hread => ?decode⟩
  case encode =>
    refine runCommand_executed _ _ _ _ _ .ok ?_ (withBytes_some _ _ _ _ _ hread)
    rw [sizeRefused_eq_false _ hlen hover]
    exact firstFailure_ranges_of_free s _ _ _ hsrc hdst hfree
  case length =>
    rw [payEnc, encBlocks_length _ _ _ (blockLens_sum _).symm, blockLens_sum, blockLens_length]
    rfl
  case block => exact codewordAt_encBlocks _ _ _ i (blockLens_sum _).symm hi
  case decode =>
    refine runCommand_executed _ _ _ _ _ .ok ?_ (withBytes_some _ _ _ _ _ hread)
    rw [hazardCheck_of_disabled s hrx, sizeRefused_eq_false _ hlen hover]
    exact firstFailure_ranges_of_le _ _ _ _ [] hsrc hdst

end Sys2Proof.Machine
end

section
/-! SUPPORT. The frame header as bytes and as registers: the hop code, the byte lanes of a register, bytes 18 and 19
against FLAGS, packing against unpacking, and HDR_PACK and HDR_UNPACK (spec/43_header.md R97 to R103). -/

namespace Sys2Proof.Machine

/-! ### The hop code (R98) -/

theorem hopEnc_hopDec (c : BitVec 2) : hopEnc (hopDec c) = c := by revert c; decide

theorem hopDec_hopEnc (h : BitVec 2) : hopDec (hopEnc h) = h := by revert h; decide

/-! ### Byte lanes (R28, R46, R47) -/

theorem byteLane_append_zero {w : Nat} (v : BitVec w) (b : Byte) : byteLane (v ++ b) 0 = b :=
  BitVec.extractLsb'_append_eq_right

theorem byteLane_append_succ {w : Nat} (v : BitVec w) (b : Byte) (i : Nat) :
    byteLane (v ++ b) (i + 1) = byteLane v i := by
  rw [byteLane, BitVec.extractLsb'_append_eq_of_le (by omega), byteLane, Nat.mul_succ, Nat.add_sub_cancel]

theorem byteLane_byte (b : Byte) : byteLane b 0 = b := BitVec.extractLsb'_eq_self

/-- A half of a word, big-endian, is two of the word's lanes. -/
theorem be16_extractLsb' (v : BitVec 32) (k : Nat) :
    be16 (v.extractLsb' (8 * k) 16) = [byteLane v (k + 1), byteLane v k] := by
  have hlane (i : Nat) (hi : i < 2) : byteLane (v.extractLsb' (8 * k) 16) i = byteLane v (k + i) := by
    refine BitVec.eq_of_getLsbD_eq fun j hj => ?_
    simp only [byteLane, BitVec.getLsbD_extractLsb', hj, show 8 * i + j < 16 by omega, decide_true, Bool.true_and]
    congr 1
    omega
  exact congrArg₂ (fun x y => [x, y]) (hlane 1 (by decide)) (hlane 0 (by decide))

theorem lanes_half (v : BitVec 16) : byteLane v 1 ++ byteLane v 0 = v :=
  (BitVec.extractLsb'_append_extractLsb'_eq_extractLsb' rfl).trans BitVec.extractLsb'_eq_self

theorem halves_word (v : BitVec 32) : v.extractLsb' 16 16 ++ v.extractLsb' 0 16 = v :=
  (BitVec.extractLsb'_append_extractLsb'_eq_extractLsb' rfl).trans BitVec.extractLsb'_eq_self

theorem lanes_word (v : BitVec 32) : byteLane v 3 ++ byteLane v 2 ++ byteLane v 1 ++ byteLane v 0 = v := by
  have hhigh : byteLane v 3 ++ byteLane v 2 = v.extractLsb' 16 16 :=
    BitVec.extractLsb'_append_extractLsb'_eq_extractLsb' rfl
  have hlow : byteLane v 1 ++ byteLane v 0 = v.extractLsb' 0 16 :=
    BitVec.extractLsb'_append_extractLsb'_eq_extractLsb' rfl
  calc byteLane v 3 ++ byteLane v 2 ++ byteLane v 1 ++ byteLane v 0
      = (byteLane v 3 ++ byteLane v 2) ++ (byteLane v 1 ++ byteLane v 0) := BitVec.append_assoc
    _ = v := by rw [hhigh, hlow, halves_word]

/-! ### Bytes 18 and 19 against FLAGS (R97, R99, R100) -/

/-- FLAGS is made of its fields (R28). -/
theorem flagsOf_fields (h : HeaderRegs) :
    flagsOf h.reqAck h.reqDoubleAck h.ack0 h.ack1 h.ack2 h.ack3 h.isBeacon h.isText h.hops h.hopsRem = h.flags := by
  refine BitVec.eq_of_getLsbD_eq fun i hi => ?_
  simp only [flagsOf, HeaderRegs.hops, HeaderRegs.hopsRem, BitVec.getLsbD_append, BitVec.getLsbD_ofBool,
    BitVec.getLsbD_extractLsb']
  interval_cases i <;> rfl

theorem byte19_hops (h : HeaderRegs) : h.byte19.extractLsb' 6 2 = hopEnc h.hops := by
  refine BitVec.eq_of_getLsbD_eq fun i hi => ?_
  simp only [HeaderRegs.byte19, BitVec.getLsbD_append, BitVec.getLsbD_ofBool, BitVec.getLsbD_extractLsb']
  interval_cases i <;> rfl

theorem byte19_hopsRem (h : HeaderRegs) : h.byte19.extractLsb' 2 2 = hopEnc h.hopsRem :=
  (BitVec.extractLsb'_append_eq_of_le le_rfl).trans BitVec.extractLsb'_append_eq_right

/-- The packed flags read back: the hop code is undone, and each other flag stands at its bit. -/
theorem hdrFlags_byte18_byte19 (h : HeaderRegs) : hdrFlags h.byte18 h.byte19 = h.flags := by
  rw [← flagsOf_fields, hdrFlags, byte19_hops, byte19_hopsRem, hopDec_hopEnc, hopDec_hopEnc]
  simp only [HeaderRegs.byte18, HeaderRegs.byte19, BitVec.getLsbD_append, BitVec.getLsbD_ofBool]
  rfl

/-- Each flag of an unpacked record is a bit of byte 18 or 19 (R97). -/
theorem flag_fields_unpack (b : List Byte) :
    (unpack b).reqAck = (hdrByte b 18).getLsbD 6 ∧ (unpack b).reqDoubleAck = (hdrByte b 18).getLsbD 7
      ∧ (unpack b).ack0 = (hdrByte b 18).getLsbD 5 ∧ (unpack b).ack1 = (hdrByte b 18).getLsbD 4
      ∧ (unpack b).ack2 = (hdrByte b 18).getLsbD 3 ∧ (unpack b).ack3 = (hdrByte b 18).getLsbD 2
      ∧ (unpack b).isBeacon = (hdrByte b 19).getLsbD 5 ∧ (unpack b).isText = (hdrByte b 19).getLsbD 4 := by
  simp only [HeaderRegs.reqAck, HeaderRegs.reqDoubleAck, HeaderRegs.ack0, HeaderRegs.ack1, HeaderRegs.ack2,
    HeaderRegs.ack3, HeaderRegs.isBeacon, HeaderRegs.isText, unpack, hdrFlags, flagsOf, BitVec.getLsbD_append,
    BitVec.getLsbD_ofBool]
  exact ⟨rfl, rfl, rfl, rfl, rfl, rfl, rfl, rfl⟩

theorem hops_unpack (b : List Byte) : (unpack b).hops = hopDec ((hdrByte b 19).extractLsb' 6 2) := by
  refine BitVec.eq_of_getLsbD_eq fun i hi => ?_
  simp only [HeaderRegs.hops, unpack, hdrFlags, flagsOf, BitVec.getLsbD_append, BitVec.getLsbD_ofBool,
    BitVec.getLsbD_extractLsb']
  interval_cases i <;> rfl

theorem hopsRem_unpack (b : List Byte) : (unpack b).hopsRem = hopDec ((hdrByte b 19).extractLsb' 2 2) := by
  refine BitVec.eq_of_getLsbD_eq fun i hi => ?_
  simp only [HeaderRegs.hopsRem, unpack, hdrFlags, flagsOf, BitVec.getLsbD_append, BitVec.getLsbD_ofBool,
    BitVec.getLsbD_extractLsb']
  interval_cases i <;> rfl

/-- Packing what was unpacked clears the reserved bits of byte 18 and keeps the others. -/
theorem byte18_unpack (b : List Byte) : (unpack b).byte18 = (hdrByte b 18).extractLsb' 2 6 ++ 0#2 := by
  obtain ⟨hreqAck, hreqDoubleAck, hack0, hack1, hack2, hack3, -, -⟩ := flag_fields_unpack b
  refine BitVec.eq_of_getLsbD_eq fun i hi => ?_
  simp only [HeaderRegs.byte18, hreqAck, hreqDoubleAck, hack0, hack1, hack2, hack3, BitVec.getLsbD_append,
    BitVec.getLsbD_ofBool, BitVec.getLsbD_extractLsb']
  interval_cases i <;> rfl

/-- So it does for byte 19, whose hop pairs are decoded and encoded again. -/
theorem byte19_unpack (b : List Byte) : (unpack b).byte19 = (hdrByte b 19).extractLsb' 2 6 ++ 0#2 := by
  obtain ⟨-, -, -, -, -, -, hbeacon, htext⟩ := flag_fields_unpack b
  refine BitVec.eq_of_getLsbD_eq fun i hi => ?_
  simp only [HeaderRegs.byte19, hops_unpack, hopsRem_unpack, hopEnc_hopDec, hbeacon, htext, BitVec.getLsbD_append,
    BitVec.getLsbD_ofBool, BitVec.getLsbD_extractLsb']
  interval_cases i <;> rfl

/-- Clearing the two low bits of a byte changes nothing exactly when they are 0. -/
theorem clearReserved_eq_iff (b : Byte) : b.extractLsb' 2 6 ++ 0#2 = b ↔ b.extractLsb' 0 2 = 0#2 := by
  have hsplit : b.extractLsb' 2 6 ++ b.extractLsb' 0 2 = b := BitVec.extractLsb'_append_extractLsb' (w := 6) (len := 2)
  conv_lhs => rhs; rw [← hsplit]
  rw [BitVec.append_right_inj, eq_comm]

/-! ### The wire layout (R97) -/

/-- The 32 packed bytes as lanes of the registers, in wire order. -/
theorem packBytes_eq (h : HeaderRegs) :
    packBytes h
      = [byteLane h.dstA 0, byteLane h.dstA 1, byteLane h.dstA 2, byteLane h.dstA 3, byteLane h.dstB 0,
          byteLane h.dstB 1, byteLane h.lsrcA 0, byteLane h.lsrcA 1, byteLane h.lsrcA 2, byteLane h.lsrcA 3,
          byteLane h.lsrcB 0, byteLane h.lsrcB 1, byteLane h.srcA 0, byteLane h.srcA 1, byteLane h.srcA 2,
          byteLane h.srcA 3, byteLane h.srcB 0, byteLane h.srcB 1, h.byte18, h.byte19, byteLane h.size 1,
          byteLane h.size 0, byteLane h.mySeq 1, byteLane h.mySeq 0, byteLane h.data01 1, byteLane h.data01 0,
          byteLane h.data01 3, byteLane h.data01 2, byteLane h.data23 1, byteLane h.data23 0, byteLane h.data23 3,
          byteLane h.data23 2] := by
  rw [packBytes, be16_extractLsb' h.data01 0, be16_extractLsb' h.data01 2, be16_extractLsb' h.data23 0,
    be16_extractLsb' h.data23 2]
  rfl

theorem callsignBytes_hdrCall (b : List Byte) (i : Nat) :
    callsignBytes (hdrCallA b i) (hdrCallB b i)
      = [hdrByte b i, hdrByte b (i + 1), hdrByte b (i + 2), hdrByte b (i + 3), hdrByte b (i + 4),
          hdrByte b (i + 5)] := by
  simp only [callsignBytes, hdrCallA, hdrCallB, byteLane_append_zero, byteLane_append_succ, byteLane_byte]

theorem be16_hdrU16 (b : List Byte) (i : Nat) : be16 (hdrU16 b i) = [hdrByte b i, hdrByte b (i + 1)] :=
  congrArg₂ (fun x y => [x, y]) BitVec.extractLsb'_append_eq_left BitVec.extractLsb'_append_eq_right

theorem hdrU16_append_hdrU16 (b : List Byte) (i j : Nat) :
    hdrU16 b i ++ hdrU16 b j = hdrByte b i ++ hdrByte b (i + 1) ++ hdrByte b j ++ hdrByte b (j + 1) :=
  (BitVec.append_assoc (x₁ := hdrByte b i ++ hdrByte b (i + 1)) (x₂ := hdrByte b j)
    (x₃ := hdrByte b (j + 1))).symm

theorem map_hdrByte_range (b : List Byte) : (List.range b.length).map (hdrByte b) = b := by
  refine List.ext_getElem (by simp) fun i _ hi => ?_
  rw [List.getElem_map, List.getElem_range, hdrByte, List.getD_eq_getElem b 0#8 hi]

/-! ### Packing and unpacking (R99 to R101) -/

/-- Unpacking undoes the layout, register by register. -/
theorem unpack_packBytes (h : HeaderRegs) : unpack (packBytes h) = h := by
  rw [unpack, hdrU16_append_hdrU16, hdrU16_append_hdrU16, packBytes_eq]
  simp only [hdrCallA, hdrCallB, hdrU16, hdrByte, List.getD_cons_succ, List.getD_cons_zero, lanes_word, lanes_half,
    hdrFlags_byte18_byte19]

/-- The layout undoes unpacking, but for the reserved bits of bytes 18 and 19. -/
theorem packBytes_unpack (b : List Byte) (hlen : b.length = 32) :
    packBytes (unpack b)
      = b.take 18 ++ [(hdrByte b 18).extractLsb' 2 6 ++ 0#2, (hdrByte b 19).extractLsb' 2 6 ++ 0#2] ++ b.drop 20 := by
  have hb : (List.range 32).map (hdrByte b) = b := hlen ▸ map_hdrByte_range b
  have hlow : b.take 18 = (List.range 18).map (hdrByte b) := (congrArg (List.take 18) hb).symm
  have hhigh : b.drop 20 = (List.range' 20 12).map (hdrByte b) := (congrArg (List.drop 20) hb).symm
  rw [packBytes, byte18_unpack, byte19_unpack, hlow, hhigh]
  simp only [unpack, callsignBytes_hdrCall, be16_hdrU16, BitVec.extractLsb'_append_eq_right,
    BitVec.extractLsb'_append_eq_left, List.cons_append, List.nil_append]
  rfl

theorem packBytes_unpack_eq_iff (b : List Byte) (hlen : b.length = 32) :
    packBytes (unpack b) = b ↔ (hdrByte b 18).extractLsb' 0 2 = 0#2 ∧ (hdrByte b 19).extractLsb' 0 2 = 0#2 := by
  have hb : (List.range 32).map (hdrByte b) = b := hlen ▸ map_hdrByte_range b
  have hsplit : b.take 18 ++ [hdrByte b 18, hdrByte b 19] ++ b.drop 20 = b := by
    rw [← hb]
    rfl
  rw [packBytes_unpack b hlen, ← clearReserved_eq_iff, ← clearReserved_eq_iff]
  conv_lhs => rhs; rw [← hsplit]
  rw [List.append_left_inj, List.append_right_inj, List.cons.injEq, List.cons.injEq]
  simp only [and_true]

/-- The hop check as a comparison (R99). -/
theorem hopsBad_eq_false_iff (h : HeaderRegs) : h.hopsBad = false ↔ h.hopsRem.toNat ≤ h.hops.toNat :=
  decide_eq_false_iff_not.trans Nat.not_lt

theorem pack_eq_ite (h : HeaderRegs) :
    pack h = if h.hopsRem.toNat ≤ h.hops.toNat then some (packBytes h) else none := by
  simp only [pack, ← hopsBad_eq_false_iff]
  cases h.hopsBad <;> rfl

/-- Settles O37: each part is one of the lemmas above. -/
theorem headerPackUnpackInverse : Obligations.HeaderPackUnpackInverse := by
  refine ⟨⟨rfl, rfl, rfl, rfl⟩, fun c => ⟨hopEnc_hopDec c, hopDec_hopEnc c⟩, packBytes_eq, fun b => ?unpackLayout,
    pack_eq_ite, fun h b hpack => ?unpackPacked, unpack_packBytes,
    fun b hlen => ⟨packBytes_unpack_eq_iff b hlen, ?packUnpacked⟩⟩
  case unpackLayout =>
    rw [unpack, hdrU16_append_hdrU16, hdrU16_append_hdrU16]
    rfl
  case unpackPacked =>
    obtain ⟨-, rfl⟩ := (pack_eq_some h b).1 hpack
    exact ⟨packBytes_length h, unpack_packBytes h⟩
  case packUnpacked =>
    rw [pack_eq_some, hopsBad_eq_false_iff, hops_unpack, hopsRem_unpack, packBytes_unpack_eq_iff b hlen]
    exact and_comm

/-! ### HDR_PACK and HDR_UNPACK (R102, R103) -/

/-- Settles O9: the checks pass, and each command executes on the record or on the bytes it reads. -/
theorem headerCommandsConvert : Obligations.HeaderCommandsConvert := by
  refine ⟨fun s hhops hdst hfree => ?pack, fun s input hrx hsrc hread => ?unpack⟩
  case pack =>
    have hgood := hopsBad_eq_false s.txh hhops
    refine runCommand_executed _ _ _ _ _ .ok ?_ (withPacked_of_ok s _ hgood)
    rw [hgood, rangeCheck_of_le s.dst Config.hdrLen hdst, destHazardCheck_of_free s Config.hdrLen hfree]
    rfl
  case unpack =>
    refine runCommand_executed _ _ _ _ _ .ok ?_ (withBytes_some _ _ _ _ _ hread)
    rw [hazardCheck_of_disabled s hrx, rangeCheck_of_le s.src Config.hdrLen hsrc]
    rfl

end Sys2Proof.Machine
end

section
/-! SUPPORT. A frame as a header codeword and payload blocks, and what the codecs answer on one received within their
reach (spec/20_memory.md R12, spec/42_rs_codec.md R81, R89, spec/44_frame_engine.md R104, R106, R111). -/

namespace Sys2Proof.Machine

/-! ### A region read in two parts (R12) -/

theorem readBytes_succ_eq_some (m : Memory) (a n : Nat) (bs : List Byte) :
    Memory.readBytes m a (n + 1) = some bs
      ↔ ∃ b rest, Memory.read m a = some b ∧ Memory.readBytes m (a + 1) n = some rest ∧ b :: rest = bs := by
  rw [Memory.readBytes]
  cases Memory.read m a <;> cases Memory.readBytes m (a + 1) n <;> simp

/-- A region that reads is two adjacent regions that read. -/
theorem readBytes_split (m : Memory) (a n k : Nat) (bs : List Byte) (h : Memory.readBytes m a (n + k) = some bs) :
    Memory.readBytes m a n = some (bs.take n) ∧ Memory.readBytes m (a + n) k = some (bs.drop n) := by
  induction n generalizing a bs with
  | zero => exact ⟨rfl, by rwa [Nat.zero_add] at h⟩
  | succ n ih =>
    rw [Nat.add_right_comm] at h
    obtain ⟨b, rest, hb, hrest, rfl⟩ := (readBytes_succ_eq_some m a (n + k) bs).1 h
    obtain ⟨hfirst, hsecond⟩ := ih (a + 1) rest hrest
    refine ⟨(readBytes_succ_eq_some _ _ _ _).2 ⟨b, rest.take n, hb, hfirst, rfl⟩, ?_⟩
    rwa [show a + (n + 1) = a + 1 + n by omega]

/-! ### Payload blocks within the code's reach (R81, R89) -/

/-- The distance of two words is the sum over their parts. -/
theorem dist_append (a b c d : List Byte) (h : a.length = c.length) : dist (a ++ b) (c ++ d) = dist a c + dist b d := by
  induction a generalizing c with
  | nil =>
    obtain rfl := List.length_eq_zero_iff.1 h.symm
    exact (Nat.zero_add _).symm
  | cons x a ih =>
    obtain ⟨y, c, rfl⟩ := List.exists_cons_of_length_eq_add_one h.symm
    simp only [List.cons_append, dist, ih c (by simpa using h), Nat.add_assoc]

/-- When every block is received within t of its codeword, every block decodes and the corrections add up to the
distance of the whole. -/
theorem decBlocks_of_near (ecc : Nat) (lens : List Nat) (i : Nat) (wire data : List Byte) (k : Nat)
    (hdata : data.length = lens.sum) (hwire : FillsBlocks ecc lens wire) (hsize : ∀ n ∈ lens, n + ecc ≤ 255)
    (hnear : ∀ j < lens.length,
      dist (codewordAt ecc lens j wire) (codewordAt ecc lens j (encBlocks ecc lens data)) ≤ ecc / 2) :
    decBlocks ecc lens i wire k = ⟨true, data, 0#32, dist wire (encBlocks ecc lens data), k⟩ := by
  induction lens generalizing i wire data with
  | nil =>
    obtain rfl := List.length_eq_zero_iff.1 hdata
    obtain rfl := List.length_eq_zero_iff.1 (hwire.trans (by simp))
    rfl
  | cons n lens ih =>
    obtain ⟨hfirst, hrest⟩ := fillsBlocks_cons ecc n lens wire hwire
    obtain ⟨hn, hlens⟩ := List.forall_mem_cons.1 hsize
    rw [List.sum_cons] at hdata
    have hmsg : (data.take n).length + ecc = (wire.take (n + ecc)).length := by
      rw [List.length_take, hfirst]
      omega
    have hcode : (rsEnc (data.take n) ecc).length = n + ecc := by rw [rsEnc_length, hmsg, hfirst]
    have hdec := rsDec_of_dist_le (wire.take (n + ecc)) (data.take n) ecc (by rwa [hfirst]) hmsg (by
      simpa [encBlocks, List.take_left' hcode] using hnear 0 (Nat.succ_pos _))
    have htail := ih (i + 1) (wire.drop (n + ecc)) (data.drop n) (by rw [List.length_drop]; omega) hrest hlens
      fun j hj => by simpa [encBlocks, List.drop_left' hcode] using hnear (j + 1) (Nat.succ_lt_succ hj)
    have hsum := dist_append (wire.take (n + ecc)) (wire.drop (n + ecc)) (rsEnc (data.take n) ecc)
      (encBlocks ecc lens (data.drop n)) (hfirst.trans hcode.symm)
    rw [List.take_append_drop] at hsum
    rw [decBlocks_cons_ok _ _ _ _ _ _ _ _ hdec, htail, encBlocks, hsum]
    simp only [List.take_append_drop]

/-- No block of a length that is not overlong passes the largest codeword (R87). -/
theorem block_le_of_not_overlong (len n : Nat) (h : overlong len = false) (hn : n ∈ blockLens len) :
    n + (partition len).ecc ≤ 255 := by
  obtain rfl | hpos := Nat.eq_zero_or_pos len
  · cases hn
  · rw [overlong_of_pos len hpos, decide_eq_false_iff_not] at h
    have hlarge : (partition len).largeLen = (partition len).smallLen + 1 := by rw [partition_of_pos len hpos]
    simp only [blockLens, List.mem_append, List.mem_replicate] at hn
    split at h <;> omega

@[simp] theorem payEnc_length (p : List Byte) : (payEnc p).length = rawSize p.length := by
  rw [payEnc, encBlocks_length _ _ _ (blockLens_sum _).symm, blockLens_sum, blockLens_length]
  rfl

/-- A payload whose blocks are all received within t is decoded whole. -/
theorem payDec_of_near (wire p : List Byte) (len k : Nat) (hp : p.length = len) (hover : overlong len = false)
    (hwire : wire.length = rawSize len)
    (hnear : ∀ i < (blockLens len).length,
      dist (wireBlock len i wire) (wireBlock len i (payEnc p)) ≤ (partition len).ecc / 2) :
    payDec wire len k = ⟨true, p, 0#32, dist wire (payEnc p), k⟩ := by
  subst hp
  refine decBlocks_of_near _ _ 0 wire p k (blockLens_sum _).symm ?_
    (fun n hn => block_le_of_not_overlong p.length n hover hn) hnear
  rw [FillsBlocks, blockLens_sum, blockLens_length]
  exact hwire

/-! ### The raw frame (R104) -/

theorem descramble_scramble (bs : List Byte) : (descramble (scramble bs).1).1 = bs := descrambleUndoesScramble.1 bs

@[simp] theorem frameStream_length (h : HeaderRegs) (p : List Byte) :
    (frameStream (packBytes h) p).1.length = 32 + p.length := by
  simp [frameStream]

theorem frameStream_drop_length (h : HeaderRegs) (p : List Byte) :
    ((frameStream (packBytes h) p).1.drop 32).length = p.length := by
  rw [List.length_drop, frameStream_length, Nat.add_sub_cancel_left]

/-- The stream's first 32 bytes are the header scrambled on its own, so a receiver can read them alone (R73, R112). -/
theorem frameStream_take (h : HeaderRegs) (p : List Byte) :
    (frameStream (packBytes h) p).1.take 32 = (scramble (packBytes h)).1 := scramble_append_take (packBytes h) p

theorem descramble_frameStream (h : HeaderRegs) (p : List Byte) :
    (descramble (frameStream (packBytes h) p).1).1 = packBytes h ++ p := descramble_scramble _

theorem hdrEnc_length (hs : List Byte) : (hdrEnc hs).length = hs.length + 32 := rsEnc_length hs 32

theorem headerCode_length (stream : List Byte) (n : Nat) (h : stream.length = 32 + n) :
    (hdrEnc (stream.take 32)).length = 64 := by
  rw [hdrEnc_length, List.length_take]
  omega

theorem frameOf_take (stream : List Byte) (n : Nat) (h : stream.length = 32 + n) :
    (frameOf stream).take 64 = hdrEnc (stream.take 32) := List.take_left' (headerCode_length stream n h)

theorem frameOf_drop (stream : List Byte) (n : Nat) (h : stream.length = 32 + n) :
    (frameOf stream).drop 64 = payEnc (stream.drop 32) := List.drop_left' (headerCode_length stream n h)

theorem frameOf_length (stream : List Byte) (n : Nat) (h : stream.length = 32 + n) :
    (frameOf stream).length = 64 + rawSize n := by
  simp only [frameOf, Config.hdrLen, List.length_append, headerCode_length stream n h, payEnc_length,
    List.length_drop, h, Nat.add_sub_cancel_left]

/-! ### The header check (R106) -/

/-- A header received within 16 symbols of its codeword is accepted as it was sent, when its length is; the payload sent
after it plays no part. -/
theorem hdrCheck_of_near (h : HeaderRegs) (p r : List Byte) (hlen : r.length = 64)
    (hsize : sizeRefused h.size.toNat = false)
    (hnear : dist r (hdrEnc ((frameStream (packBytes h) p).1.take 32)) ≤ 16) :
    hdrCheck r
      = .good h ((frameStream (packBytes h) p).1.take 32) (dist r (hdrEnc ((frameStream (packBytes h) p).1.take 32)))
          (descramble ((frameStream (packBytes h) p).1.take 32)).2 := by
  rw [frameStream_take] at hnear ⊢
  have hdec : hdrDec r = .ok (scramble (packBytes h)).1 (dist r (hdrEnc (scramble (packBytes h)).1)) :=
    rsDec_of_dist_le r _ 32 (by omega) (by simp [hlen]) hnear
  rw [hdrCheck_of_ok r _ _ hdec, descramble_scramble, unpack_packBytes, hsize]
  rfl

end Sys2Proof.Machine
end

section
/-! SUPPORT. The frame engine's commands: NOP, ENCODE_FRAME, DECODE_FRAME and DECODE_HEADER
(spec/44_frame_engine.md R104 to R112). -/

namespace Sys2Proof.Machine

/-! ### NOP (R107) -/

/-- Settles O8: NOP has no check and executes to the state itself. -/
theorem nopOnlyCompletes : Obligations.NopOnlyCompletes := 
  ⟨tableWordsDecode.1, fun s => runCommand_executed (Instr.opcode .nop) [] _ s s .ok firstFailure_nil rfl⟩

/-! ### ENCODE_FRAME (R108) -/

theorem exec_encodeFrame (s : State) : exec .encodeFrame s = execEncodeFrame s := rfl

/-- Settles O15: the checks pass, and the command executes on the payload it reads and the packed TXH. -/
theorem encodeFrameStoresFrame : Obligations.EncodeFrameStoresFrame := by
  intro s p hhops hlen hover hsrc hdst hfree hread
  have hgood := hopsBad_eq_false s.txh hhops
  rw [exec_encodeFrame, execEncodeFrame, withBytes_some _ _ _ _ _ hread, withPacked_of_ok s _ hgood]
  dsimp only
  refine runCommand_executed _ _ _ _ _ .ok ?_ rfl
  rw [hgood, sizeRefused_eq_false _ hlen hover]
  exact firstFailure_ranges_of_free s _ _ _ hsrc hdst hfree

/-! ### DECODE_FRAME and DECODE_HEADER (R106, R109, R110) -/

/-- A frame whose header is accepted, that is long enough and whose payload has room, gives the result set. -/
theorem decodeFrameAt_good (src n dst : Nat) (s : State) (header wire : List Byte) (h : HeaderRegs) (hs : List Byte)
    (ch : Nat) (lfsr : BitVec 9) (hread : Memory.readBytes s.mem src 64 = some header)
    (hgood : hdrCheck header = .good h hs ch lfsr) (hlen : 64 + rawSize h.size.toNat ≤ n)
    (hdst : dst + h.size.toNat ≤ 8192)
    (hwire : Memory.readBytes s.mem (src + 64) (rawSize h.size.toNat) = some wire) :
    decodeFrameAt src n dst s = .ok (.ok, s.setFrameResult dst h hs ch (payDec wire h.size.toNat s.draws)) := by
  have hlong : ¬n < Config.hdrRaw + rawSize h.size.toNat := Nat.not_lt.2 hlen
  have hroom : regionOk dst h.size.toNat = true := decide_eq_true hdst
  unfold decodeFrameAt
  rw [withBytes_some _ _ Config.hdrRaw _ _ hread]
  simp only [hgood, if_neg hlong, hroom, Bool.not_true, Bool.false_eq_true, if_false]
  exact withBytes_some _ _ _ _ _ hwire

/-- A failed header check is the frame decode's answer, with the state as it was. -/
theorem decodeFrameAt_failedHeader (src n dst : Nat) (s : State) (header : List Byte) (code : ResultCode)
    (hread : Memory.readBytes s.mem src 64 = some header) (hfail : (hdrCheck header).failCode = some code) :
    decodeFrameAt src n dst s = .ok (code, s) := by
  unfold decodeFrameAt
  rw [withBytes_some _ _ Config.hdrRaw _ _ hread]
  cases hcheck : hdrCheck header with
  | rsBad | sizeBad =>
    rw [hcheck] at hfail
    cases hfail
    rfl
  | good h hs ch lfsr =>
    rw [hcheck] at hfail
    cases hfail

theorem decodeFrame_checks_pass (s : State) (hrx : s.rxEn = false) (hlen : 64 ≤ s.len) (hsrc : s.src + s.len ≤ 8192) :
    firstFailure [hazardCheck s, (decide (s.len < Config.hdrRaw), .eLength), rangeCheck s.src s.len] = none := by
  rw [hazardCheck_of_disabled s hrx, headerLength_ok s.len hlen, rangeCheck_of_le _ _ hsrc]
  rfl

/-- Settles O16: the checks pass, and the frame decode answers by the header check. -/
theorem decodeFrameWritesResultSet : Obligations.DecodeFrameWritesResultSet := by
  intro s header hrx hlen hsrc hread
  have hpass := decodeFrame_checks_pass s hrx hlen hsrc
  refine ⟨fun hbad => ?rsBad, fun hbad => ?sizeBad, fun h hs ch lfsr wire hgood hlong hdst hwire => ?good⟩
  case rsBad =>
    exact runCommand_channel _ _ _ _ _ .hdrRsFail hpass
      (decodeFrameAt_failedHeader _ _ _ s header _ hread (by rw [hbad]; rfl)) rfl nofun
  case sizeBad =>
    exact runCommand_channel _ _ _ _ _ .hdrSizeFail hpass
      (decodeFrameAt_failedHeader _ _ _ s header _ hread (by rw [hbad]; rfl)) rfl nofun
  case good =>
    exact runCommand_executed _ _ _ _ _ .ok hpass
      (decodeFrameAt_good _ _ _ s header wire h hs ch lfsr hread hgood hlong hdst hwire)

theorem hdrCheck_eq_rsBad_iff (r : List Byte) : hdrCheck r = .rsBad ↔ hdrDec r = .fail := by
  refine ⟨fun hbad => ?_, hdrCheck_of_fail r⟩
  cases hdec : hdrDec r with
  | fail => rfl
  | ok hs c =>
    rw [hdrCheck_of_ok r hs c hdec] at hbad
    split at hbad <;> cases hbad

theorem decodeHeader_checks_pass (s : State) (hrx : s.rxEn = false) (hlen : 64 ≤ s.len) (hsrc : s.src + 64 ≤ 8192) :
    firstFailure [hazardCheck s, (decide (s.len < Config.hdrRaw), .eLength), rangeCheck s.src Config.hdrRaw] = none := by
  rw [hazardCheck_of_disabled s hrx, headerLength_ok s.len hlen, rangeCheck_of_le s.src Config.hdrRaw hsrc]
  rfl

/-- Settles O17: the header check is the codec's answer and the refused lengths, and the command's checks pass. -/
theorem decodeHeaderWritesHeader : Obligations.DecodeHeaderWritesHeader := by
  refine ⟨fun r => ⟨hdrCheck_eq_rsBad_iff r, fun hs c hok => ⟨fun hrefused => ?refused, fun hmax hnot => ?accepted⟩⟩,
    fun s header hrx hlen hsrc hread => ?command⟩
  case refused => rw [hdrCheck_of_ok r hs c hok, if_pos ((sizeRefused_iff _).2 hrefused)]
  case accepted =>
    rw [hdrCheck_of_ok r hs c hok, if_neg fun hrefused => ((sizeRefused_iff _).1 hrefused).elim (by omega) hnot]
  case command =>
    have hpass := decodeHeader_checks_pass s hrx hlen hsrc
    refine ⟨fun hbad => ?rsBad, fun hbad => ?sizeBad, fun h hs ch lfsr hgood => ?good⟩
    case rsBad =>
      refine runCommand_channel _ _ _ _ _ .hdrRsFail hpass ((withBytes_some _ _ _ _ _ hread).trans ?_) rfl nofun
      rw [hbad]
    case sizeBad =>
      refine runCommand_channel _ _ _ _ _ .hdrSizeFail hpass ((withBytes_some _ _ _ _ _ hread).trans ?_) rfl nofun
      rw [hbad]
    case good =>
      refine runCommand_executed _ _ _ _ _ .ok hpass ((withBytes_some _ _ _ _ _ hread).trans ?_)
      rw [hgood]

/-! ### The round trip (R111, R112) -/

/-- Settles O39: the header and every block are within their codes' reach, so the descrambler reads the sent stream. -/
theorem frameSurvivesSymbolErrors : Obligations.FrameSurvivesSymbolErrors := by
  intro s h p received hrx hsize hmax hover hlen hsrc hdst hread sent hhdr hpay
  have hstream := frameStream_length h p
  have hsentHead : sent.take 64 = hdrEnc ((frameStream (packBytes h) p).1.take 32) := frameOf_take _ _ hstream
  have hsentPay : sent.drop 64 = payEnc ((frameStream (packBytes h) p).1.drop 32) := frameOf_drop _ _ hstream
  rw [hsentHead] at hhdr ⊢
  simp only [hsentPay] at hpay ⊢
  obtain ⟨hhead, hwire⟩ := readBytes_split s.mem s.src 64 (rawSize p.length) received (hlen ▸ hread)
  have hgood := hdrCheck_of_near h p _ (readBytes_length _ _ _ _ hhead)
    (by rw [hsize]; exact sizeRefused_eq_false _ hmax hover) hhdr
  have hdec := payDec_of_near _ _ p.length s.draws (frameStream_drop_length h p) hover
    (readBytes_length _ _ _ _ hwire) hpay
  obtain ⟨-, -, hdecode⟩ := decodeFrameWritesResultSet s _ hrx (by omega) hsrc hhead
  rw [← hsize] at hdst hwire
  have hexec := hdecode h _ _ _ _ hgood (by rw [hsize]; exact hlen.ge) hdst hwire
  simp only [hsize, hdec, List.take_append_drop, descramble_frameStream, List.take_left' (packBytes_length h),
    List.drop_left' (packBytes_length h), List.take_length, unpack_packBytes] at hexec
  exact hexec

/-- Settles O38: an unchanged frame is one with no errors, and its first 64 bytes are the header's codeword. -/
theorem frameRoundTrip : Obligations.FrameRoundTrip := by
  intro s h p hrx hsize hmax hover
  refine ⟨fun hlen hsrc hdst hread => ?frame, fun hlen hsrc hread => ?header, rfl,
    frameOf_length _ _ (frameStream_length h p)⟩
  case frame =>
    have hexec := frameSurvivesSymbolErrors s h p _ hrx hsize hmax hover hlen hsrc hdst hread (by simp) (by simp)
    simpa only [dist_self] using hexec
  case header =>
    rw [frameOf_take _ _ (frameStream_length h p)] at hread
    have hgood := hdrCheck_of_near h p _ (readBytes_length _ _ _ _ hread)
      (by rw [hsize]; exact sizeRefused_eq_false _ hmax hover) (by simp)
    obtain ⟨-, -, hdecode⟩ := decodeHeaderWritesHeader.2 s _ hrx hlen.ge hsrc hread
    have hexec := hdecode _ _ _ _ hgood
    rw [hsize, dist_self] at hexec
    exact hexec

end Sys2Proof.Machine
end

section
/-! SUPPORT. One window for the receive agent: disabled, squelched, and in each state of the receiver; the signal
decisions as sums over the window (spec/45_detector.md R114 to R124, spec/46_receiver.md R132 to R134). -/

namespace Sys2Proof.Machine

/-! ### The signal decisions (R117, R132) -/

theorem sum_map_range (n : Nat) (f : Nat → Num) : ((List.range n).map f).sum = ∑ i ∈ Finset.range n, f i := rfl

/-- The bit of a window against its reference, as a sum over the samples (R132). -/
theorem flip_eq (d : Dsp) (prev cur : Window) :
    flip d prev cur = decide ((∑ n ∈ Finset.range d.width, d.bpf cur n * d.bpf prev n) < 0) := rfl

theorem magnitude_eq_abs (x : Num) : magnitude x = |x| := by
  unfold magnitude
  split
  · rename_i hneg
    exact (abs_of_neg hneg).symm
  · rename_i hpos
    exact (abs_of_nonneg (not_lt.1 hpos)).symm

/-- The gain estimate as the mean magnitude over the trimmed window (R117). -/
theorem gainEstimate_eq (d : Dsp) (skip : BitVec 32) (w : Window) :
    gainEstimate d skip w
      = if d.width ≤ (skip.extractLsb' 0 16).toNat + (skip.extractLsb' 16 16).toNat then d.gainQ 0
        else
          d.gainQ
            ((∑ n ∈ Finset.Ico (skip.extractLsb' 0 16).toNat (d.width - (skip.extractLsb' 16 16).toNat), |d.mf w n|)
              / ((d.width - (skip.extractLsb' 16 16).toNat - (skip.extractLsb' 0 16).toNat : Nat) : Rat)) := by
  simp only [gainEstimate, sum_map_range, magnitude_eq_abs, Finset.sum_Ico_eq_sum_range]

/-! ### Counters that saturate (R120) -/

/-- Below another value of its width a counter is not saturated. -/
theorem satSucc_toNat_of_lt {n : Nat} (v m : BitVec n) (h : v.toNat < m.toNat) : (satSucc v).toNat = v.toNat + 1 := by
  have hm := m.isLt
  have hne : v ≠ BitVec.allOnes n := by
    rintro rfl
    rw [BitVec.toNat_allOnes] at h
    omega
  have hone : (1#n).toNat = 1 := BitVec.toNat_one (Nat.pos_of_ne_zero (by rintro rfl; omega))
  rw [satSucc, if_neg hne, BitVec.toNat_add_of_lt, hone]
  rw [hone]
  omega

/-- A counter one below another value of its width, or above that, reaches it. -/
theorem le_satSucc_toNat {n : Nat} (v m : BitVec n) (h : m.toNat ≤ v.toNat + 1) : m.toNat ≤ (satSucc v).toNat := by
  by_cases hall : v = BitVec.allOnes n
  · have hm := m.isLt
    rw [satSucc, if_pos hall, hall, BitVec.toNat_allOnes]
    omega
  · have hv := v.isLt
    have hlt : v.toNat < (BitVec.allOnes n).toNat := by
      refine Nat.lt_of_le_of_ne (by rw [BitVec.toNat_allOnes]; omega) fun heq => hall (BitVec.eq_of_toNat_eq heq)
    rwa [satSucc_toNat_of_lt v _ hlt]

/-- A counter that stays below another value of its width after counting did not saturate. -/
theorem satSucc_toNat_of_satSucc_lt {n : Nat} (v m : BitVec n) (h : (satSucc v).toNat < m.toNat) :
    (satSucc v).toNat = v.toNat + 1 := by
  refine satSucc_toNat_of_lt v m ?_
  by_contra hge
  exact absurd (le_satSucc_toNat v m (by omega)) (Nat.not_le.2 h)

/-! ### A window with the receiver disabled, and a squelched one (R114, R116) -/

theorem rxStep_disabled (d : Dsp) (w : Window) (sq : Bool) (s : State) (h : s.rxEn = false) :
    rxStep d w sq s = .next { s with rxPos := s.rxPos + 1 } := by
  simp only [rxStep, h, Bool.false_eq_true, if_false]

theorem rxStep_squelched (d : Dsp) (w : Window) (s : State) (h : s.rxEn = true) :
    rxStep d w true s = .next ({ s with rxPos := s.rxPos + 1 }.emit Ev.squelch).rxReset := by
  simp only [rxStep, h, if_true]

/-- Settles O43: the disabled receiver consumes the window, and the squelched one emits SQUELCH and resets. -/
theorem disabledAndSquelchedWindows : Obligations.DisabledAndSquelchedWindows :=
  ⟨rxStep_disabled, rxStep_squelched⟩

/-! ### A window that is neither (R120) -/

theorem rxStep_next_iff (d : Dsp) (w : Window) (s t : State) (h : s.rxEn = true) :
    rxStep d w false s = .next t ↔ rxWindow d w { s with rxPos := s.rxPos + 1 } = .ok t := by
  rw [rxStep, if_pos h, if_neg Bool.false_ne_true]
  cases rxWindow d w { s with rxPos := s.rxPos + 1 } <;> simp

theorem withPrev_some (s : State) (p : Window) (k : Window → Except Fault State) (h : s.prev = some p) :
    withPrev s k = k p := by
  simp only [withPrev, h]

/-! ### Carrier search (R121) -/

/-- The receiver searches for a carrier. -/
def InSearch (s : State) : Prop := s.rx.state = .idle ∨ s.rx.state = .coherenceAccumulating

/-- COH_COUNT after a search window: up, or back to 0 where the window is not coherent. -/
def cohAfter (d : Dsp) (w : Window) (s : State) : BitVec 16 :=
  if s.cfg.cohThresh.toNat < (d.coh w).val then satSucc s.rx.cohCount else 0#16

theorem cohAfter_of_coherent (d : Dsp) (w : Window) (s : State) (h : s.cfg.cohThresh.toNat < (d.coh w).val) :
    cohAfter d w s = satSucc s.rx.cohCount := if_pos h

theorem cohAfter_of_not_coherent (d : Dsp) (w : Window) (s : State) (h : (d.coh w).val ≤ s.cfg.cohThresh.toNat) :
    cohAfter d w s = 0#16 := if_neg (Nat.not_lt.2 h)

/-- One window that is not coherent never locks. -/
theorem cohAfter_lt_threshold (d : Dsp) (w : Window) (s : State) (h : (d.coh w).val ≤ s.cfg.cohThresh.toNat) :
    (cohAfter d w s).toNat < max s.cfg.carrierThreshold.toNat 1 := by
  rw [cohAfter_of_not_coherent d w s h]
  exact Nat.lt_of_lt_of_le Nat.one_pos (Nat.le_max_right _ 1)

/-- The search state after a window that neither locks nor ends the budget. -/
def stateAfter (d : Dsp) (w : Window) (s : State) : RxState :=
  if s.cfg.cohThresh.toNat < (d.coh w).val then .coherenceAccumulating else .idle

theorem countSearch_eq (d : Dsp) (w : Window) (s : State) :
    s.countSearch (coherent d s w)
      = { s with
          rx :=
            { s.rx with
              winCount := satSucc s.rx.winCount
              cohCount := cohAfter d w s
              state := stateAfter d w s } } := by
  simp only [State.countSearch, coherent, cohAfter, stateAfter, decide_eq_true_eq]

theorem rxStep_search (d : Dsp) (w : Window) (s : State) (h : s.rxEn = true) (hs : InSearch s) :
    rxStep d w false s = .next (searchStep d w { s with rxPos := s.rxPos + 1 }) := by
  rw [rxStep_next_iff d w s _ h]
  obtain hs | hs := hs
  · simp only [rxWindow, hs]
  · simp only [rxWindow, hs]

/-- The threshold is reached: the carrier is locked, whatever the budget. -/
theorem rxStep_search_lock (d : Dsp) (w : Window) (s : State) (h : s.rxEn = true) (hs : InSearch s)
    (hlock : max s.cfg.carrierThreshold.toNat 1 ≤ (cohAfter d w s).toNat) :
    rxStep d w false s
      = .next { s with
          rxPos := s.rxPos + 1
          rx := { s.rx with winCount := satSucc s.rx.winCount, cohCount := cohAfter d w s, state := .carrierLocked }
          event := s.event ||| Ev.carrierLock } := by
  rw [rxStep_search d w s h hs, searchStep, countSearch_eq]
  exact congrArg _ (if_pos hlock)

/-- The budget is spent without a lock. -/
theorem rxStep_search_noCarrier (d : Dsp) (w : Window) (s : State) (h : s.rxEn = true) (hs : InSearch s)
    (hlock : (cohAfter d w s).toNat < max s.cfg.carrierThreshold.toNat 1)
    (hspent : s.cfg.maxOffset.toNat ≤ (satSucc s.rx.winCount).toNat) :
    rxStep d w false s = .next ({ s with rxPos := s.rxPos + 1 }.emit Ev.noCarrier).rxReset := by
  rw [rxStep_search d w s h hs, searchStep, countSearch_eq]
  exact congrArg _ ((if_neg (Nat.not_le.2 hlock)).trans (if_pos hspent))

/-- The state after a search window that changes nothing but the counts. -/
def searchOn (d : Dsp) (w : Window) (s : State) : State :=
  { s with
    rxPos := s.rxPos + 1
    rx :=
      { s.rx with
        winCount := satSucc s.rx.winCount
        cohCount := cohAfter d w s
        state := stateAfter d w s } }

theorem inSearch_searchOn (d : Dsp) (w : Window) (s : State) : InSearch (searchOn d w s) := by
  by_cases hcoherent : s.cfg.cohThresh.toNat < (d.coh w).val
  · exact .inr (if_pos hcoherent)
  · exact .inl (if_neg hcoherent)

/-- The search goes on. -/
theorem rxStep_search_continue (d : Dsp) (w : Window) (s : State) (h : s.rxEn = true) (hs : InSearch s)
    (hlock : (cohAfter d w s).toNat < max s.cfg.carrierThreshold.toNat 1)
    (hleft : (satSucc s.rx.winCount).toNat < s.cfg.maxOffset.toNat) :
    rxStep d w false s = .next (searchOn d w s) := by
  rw [rxStep_search d w s h hs, searchStep, countSearch_eq]
  exact congrArg _ ((if_neg (Nat.not_le.2 hlock)).trans (if_neg (Nat.not_le.2 hleft)))

/-! ### Carrier lock (R122) -/

theorem rxStep_carrierLocked (d : Dsp) (w : Window) (s : State) (h : s.rxEn = true) (hs : s.rx.state = .carrierLocked) :
    rxStep d w false s = .next (lockStep d w { s with rxPos := s.rxPos + 1 }) := by
  rw [rxStep_next_iff d w s _ h]
  simp only [rxWindow, hs]

/-! ### Barker matching (R123) -/

theorem rxStep_matching (d : Dsp) (w p : Window) (s : State) (h : s.rxEn = true) (hs : s.rx.state = .barkerMatching)
    (hp : s.prev = some p) : rxStep d w false s = .next (barkerMatch d p w { s with rxPos := s.rxPos + 1 }) := by
  rw [rxStep_next_iff d w s _ h]
  simp only [rxWindow, hs]
  exact withPrev_some _ p _ hp

/-- The window's bit completes the pattern. -/
theorem rxStep_matching_found (d : Dsp) (w p : Window) (s : State) (h : s.rxEn = true)
    (hs : s.rx.state = .barkerMatching) (hp : s.prev = some p)
    (hfound : (barkerStep s.rx.barkerState (flip d p w)).2 = true) :
    rxStep d w false s
      = .next { s with
          rxPos := s.rxPos + 1
          prev := some w
          rx :=
            { s.rx with
              barkerCount := satSucc s.rx.barkerCount
              barkerState := (barkerStep s.rx.barkerState (flip d p w)).1
              state := .synchronized
              sepRemaining := s.cfg.sepSymbols }
          status := { s.status with barkerFound := true }
          event := s.event ||| Ev.syncFound } := by
  rw [rxStep_matching d w p s h hs hp, barkerMatch]
  simp only [hfound, if_true, State.feedBarker, State.emit]

/-- The budget is spent without the pattern. -/
theorem rxStep_matching_noSync (d : Dsp) (w p : Window) (s : State) (h : s.rxEn = true)
    (hs : s.rx.state = .barkerMatching) (hp : s.prev = some p)
    (hfound : (barkerStep s.rx.barkerState (flip d p w)).2 = false)
    (hspent : s.cfg.barkerMax.toNat ≤ (satSucc s.rx.barkerCount).toNat) :
    rxStep d w false s
      = .next ({ s with
          rxPos := s.rxPos + 1, status := { s.status with barkerFound := false } }.emit Ev.noSync).rxReset := by
  rw [rxStep_matching d w p s h hs hp, barkerMatch]
  simp only [hfound, Bool.false_eq_true, if_false, if_pos hspent, State.feedBarker]
  rfl

/-- The state after a matching window that neither completes the pattern nor spends the budget. -/
def matchOn (d : Dsp) (p w : Window) (s : State) : State :=
  { s with
    rxPos := s.rxPos + 1
    prev := some w
    rx :=
      { s.rx with
        barkerCount := satSucc s.rx.barkerCount
        barkerState := (barkerStep s.rx.barkerState (flip d p w)).1 }
    status := { s.status with barkerFound := false } }

/-- The matching goes on. -/
theorem rxStep_matching_continue (d : Dsp) (w p : Window) (s : State) (h : s.rxEn = true)
    (hs : s.rx.state = .barkerMatching) (hp : s.prev = some p)
    (hfound : (barkerStep s.rx.barkerState (flip d p w)).2 = false)
    (hleft : (satSucc s.rx.barkerCount).toNat < s.cfg.barkerMax.toNat) :
    rxStep d w false s = .next (matchOn d p w s) := by
  rw [rxStep_matching d w p s h hs hp, barkerMatch]
  simp only [hfound, Bool.false_eq_true, if_false, if_neg (Nat.not_le.2 hleft),
    State.feedBarker, matchOn]

/-- Settles O40: the search's, the lock's and the matching's cases, with the gain and the bit as sums. -/
theorem detectorSteps : Obligations.DetectorSteps := by
  intro d w s hrx
  refine ⟨fun hs => ⟨rxStep_search_lock d w s hrx hs, rxStep_search_noCarrier d w s hrx hs,
    rxStep_search_continue d w s hrx hs⟩, fun hs => ?lock, fun p hs hp => ?matching⟩
  case lock =>
    rw [rxStep_carrierLocked d w s hrx hs, lockStep, gainEstimate_eq]
  case matching =>
    rw [← flip_eq d p w]
    exact ⟨rxStep_matching_found d w p s hrx hs hp, rxStep_matching_noSync d w p s hrx hs hp,
      rxStep_matching_continue d w p s hrx hs hp⟩

/-! ### Separator and data windows (R124, R133, R134) -/

theorem rxStep_separator (d : Dsp) (w : Window) (s : State) (h : s.rxEn = true) (hs : s.rx.state = .synchronized)
    (hsep : s.rx.sepRemaining ≠ 0#16) :
    rxStep d w false s = .next (separatorDiscard w { s with rxPos := s.rxPos + 1 }) := by
  have hpos : 0 < s.rx.sepRemaining.toNat := Nat.pos_of_ne_zero fun h0 => hsep (BitVec.eq_of_toNat_eq h0)
  rw [rxStep_next_iff d w s _ h]
  simp only [rxWindow, hs, if_pos hpos]

/-- The receiver takes data bits: in RX_DATA, or with no separator window left. -/
def InData (s : State) : Prop := s.rx.state = .rxData ∨ s.rx.state = .synchronized ∧ s.rx.sepRemaining = 0#16

theorem rxStep_data_next_iff (d : Dsp) (w p : Window) (s t : State) (h : s.rxEn = true) (hs : InData s)
    (hp : s.prev = some p) :
    rxStep d w false s = .next t
      ↔ rxBit d p w { s with rxPos := s.rxPos + 1, rx := { s.rx with state := .rxData } } = .ok t := by
  rw [rxStep_next_iff d w s _ h]
  obtain hs | ⟨hs, hsep⟩ := hs
  · simp only [rxWindow, hs]
    rw [withPrev_some { s with rxPos := s.rxPos + 1 } p _ hp, ← hs]
  · simp only [rxWindow, hs, hsep, BitVec.toNat_zero, Nat.lt_irrefl, if_false]
    rw [withPrev_some { s with rxPos := s.rxPos + 1 } p _ hp, ← hsep]

/-- SHIFT with the newest bit at bit 0 (R134). -/
def pushBit (shift : Byte) (b : Bool) : Byte := shift.extractLsb' 0 7 ++ BitVec.ofBool b

theorem shiftLeft_or_ofBool (shift : Byte) (b : Bool) :
    (shift <<< 1) ||| (BitVec.ofBool b).setWidth 8 = pushBit shift b := by
  refine BitVec.eq_of_getElem_eq fun k hk => ?_
  rw [← BitVec.getLsbD_eq_getElem hk, ← BitVec.getLsbD_eq_getElem hk, pushBit]
  simp only [BitVec.getLsbD_append, BitVec.getLsbD_ofBool, BitVec.getLsbD_extractLsb', BitVec.getLsbD_or,
    BitVec.getLsbD_shiftLeft, BitVec.getLsbD_setWidth]
  interval_cases k <;> simp

theorem bitCount_lt_seven (k : BitVec 3) (h : k ≠ 7#3) : k.toNat < 7 := by
  have hlt := k.isLt
  have hne : k.toNat ≠ 7 := fun h7 => h (BitVec.eq_of_toNat_eq h7)
  omega

/-- The state after a data window before the eighth bit. -/
def dataBitOn (d : Dsp) (p w : Window) (s : State) : State :=
  { s with
    rxPos := s.rxPos + 1
    prev := some w
    rx :=
      { s.rx with
        state := .rxData
        shift := pushBit s.rx.shift (flip d p w)
        bitCount := s.rx.bitCount + 1#3 } }

/-- Before the eighth bit. -/
theorem rxStep_dataBit (d : Dsp) (w p : Window) (s : State) (h : s.rxEn = true) (hs : InData s) (hp : s.prev = some p)
    (hcount : s.rx.bitCount ≠ 7#3) :
    rxStep d w false s = .next (dataBitOn d p w s) := by
  rw [rxStep_data_next_iff d w p s _ h hs hp, rxBit]
  simp only [if_pos (bitCount_lt_seven _ hcount), shiftLeft_or_ofBool, dataBitOn]

/-- What the completed byte does (R134): it fails the header, completes a frame, or neither. -/
theorem rxByte_ok_iff (b : Byte) (s t : State) :
    rxByte b s = .ok t
      ↔ ∃ out, pipeAdd b s = .ok out
        ∧ ((out.failed.isSome = true ∧ t = (out.state.emit Ev.hdrErr).rxReset)
          ∨ (out.failed.isSome = false ∧ out.done = true
            ∧ ∃ s', frameDone out.frameLen out.state = .ok s' ∧ t = s'.rxReset)
          ∨ (out.failed.isSome = false ∧ out.done = false ∧ t = out.state)) := by
  constructor
  · intro h
    unfold rxByte at h
    split at h
    · cases h
    · rename_i out hout
      refine ⟨out, hout, ?_⟩
      split at h
      · rename_i hfailed
        exact .inl ⟨hfailed, (Except.ok.inj h).symm⟩
      · rename_i hfailed
        rw [Bool.not_eq_true] at hfailed
        split at h
        · rename_i hdone
          split at h
          · cases h
          · rename_i s' hframe
            exact .inr (.inl ⟨hfailed, hdone, s', hframe, (Except.ok.inj h).symm⟩)
        · rename_i hopen
          exact .inr (.inr ⟨hfailed, Bool.not_eq_true _ ▸ hopen, (Except.ok.inj h).symm⟩)
  · rintro ⟨out, hout, ⟨hfailed, rfl⟩ | ⟨hfailed, hdone, s', hframe, rfl⟩ | ⟨hfailed, hopen, rfl⟩⟩
    · simp only [rxByte, hout, hfailed, if_true]
    · simp only [rxByte, hout, hfailed, hdone, hframe, Bool.false_eq_true, if_false, if_true]
    · simp only [rxByte, hout, hfailed, hopen, Bool.false_eq_true, if_false]

/-- The eighth bit completes a byte for the pipe. -/
theorem rxStep_eighthBit_next_iff (d : Dsp) (w p : Window) (s t : State) (h : s.rxEn = true) (hs : InData s)
    (hp : s.prev = some p) (hcount : s.rx.bitCount = 7#3) :
    rxStep d w false s = .next t
      ↔ rxByte (pushBit s.rx.shift (flip d p w))
          { s with
            rxPos := s.rxPos + 1
            prev := some w
            rx := { s.rx with state := .rxData, shift := 0#8, bitCount := 0#3 } }
        = .ok t := by
  rw [rxStep_data_next_iff d w p s _ h hs hp, rxBit]
  simp only [hcount, shiftLeft_or_ofBool]
  rfl

/-- Settles O42: the separator's step and the bits before the eighth. -/
theorem separatorAndDataBits : Obligations.SeparatorAndDataBits := by
  intro d w p s hrx hp
  rw [← flip_eq d p w]
  exact ⟨rxStep_separator d w s hrx, fun hs hcount => rxStep_dataBit d w p s hrx hs hp hcount⟩

end Sys2Proof.Machine
end

section
/-! SUPPORT. The Moore machine: the expected input and the others, which input sequences complete the pattern, and the
commands BARKER_RESET and BARKER_STEP (spec/45_detector.md R127, R128, R130, R131). -/

namespace Sys2Proof.Machine

/-! ### One input (R127) -/

theorem barkerStep_eq (k : BitVec 5) (b : Bool) :
    barkerStep k b
      = (BitVec.ofNat 5 (barkerStepWith Config.barkerSeq false k.toNat b).1,
        (barkerStepWith Config.barkerSeq false k.toNat b).2) := rfl

theorem barkerSeq_getElem? (k : Nat) (h : k < 13) : Config.barkerSeq[k]? = some (Config.barkerSeq.getD k false) := by
  rw [List.getD_eq_getElem?_getD, List.getElem?_eq_getElem (show k < Config.barkerSeq.length from h)]
  rfl

/-- The sequence's own input advances the machine, and the last one finds the pattern. -/
theorem barkerStepWith_expected (retest : Bool) (k : Nat) (h : k < 13) :
    barkerStepWith Config.barkerSeq retest k (Config.barkerSeq.getD k false)
      = if k = 12 then (0, true) else (k + 1, false) := by
  rw [barkerStepWith, if_pos (barkerSeq_getElem? k h)]
  simp only [show Config.barkerSeq.length = 13 from rfl, Nat.reduceEqDiff]

/-- Any other input takes it back to the start, or to state 1 where the re-test accepts it. -/
theorem barkerStepWith_other (retest : Bool) (k : Nat) (b : Bool) (h : k < 13)
    (hb : b ≠ Config.barkerSeq.getD k false) :
    barkerStepWith Config.barkerSeq retest k b = ((if retest = true ∧ 0 < k ∧ b = true then 1 else 0), false) := by
  have hmiss : Config.barkerSeq[k]? ≠ some b := by
    rw [barkerSeq_getElem? k h]
    exact fun heq => hb (Option.some.inj heq).symm
  have hfirst : (Config.barkerSeq[0]? = some b) ↔ b = true := by simp [Config.barkerSeq, eq_comm]
  rw [barkerStepWith, if_neg hmiss]
  simp only [hfirst, Bool.and_eq_true, decide_eq_true_eq, and_assoc]
  split <;> rfl

/-- The machine never leaves its states, whatever state it is in. -/
theorem barkerStepWith_lt (retest : Bool) (k : Nat) (b : Bool) :
    (barkerStepWith Config.barkerSeq retest k b).1 < 13 := by
  unfold barkerStepWith
  split
  · rename_i hmatch
    have hk : k < 13 := (List.getElem?_eq_some_iff.1 hmatch).1
    have hend : Config.barkerSeq.length = 13 := rfl
    split
    · exact Nat.succ_pos 12
    · dsimp only
      omega
  · split <;> decide

theorem barkerStep_toNat (k : BitVec 5) (b : Bool) :
    (barkerStep k b).1.toNat = (barkerStepWith Config.barkerSeq false k.toNat b).1 := by
  have hlt := barkerStepWith_lt false k.toNat b
  rw [barkerStep_eq, BitVec.toNat_ofNat, Nat.mod_eq_of_lt (by omega)]

/-! ### Sequences of inputs (R128) -/

/-- Fewer inputs than are left of the sequence never complete it. -/
theorem not_found_of_short (retest : Bool) (l : List Bool) (k : Nat) (hk : k < 13) (h : l.length < 13 - k) :
    true ∉ runBarker retest k l := by
  induction l generalizing k with
  | nil => exact List.not_mem_nil
  | cons b l ih =>
    rw [List.length_cons] at h
    rw [runBarker, List.mem_cons, not_or]
    by_cases hb : b = Config.barkerSeq.getD k false
    · rw [hb, barkerStepWith_expected retest k hk, if_neg (by omega)]
      exact ⟨Bool.noConfusion, ih (k + 1) (by omega) (by omega)⟩
    · rw [barkerStepWith_other retest k b hk hb]
      refine ⟨Bool.noConfusion, ?_⟩
      split
      · exact ih 1 (by omega) (by omega)
      · exact ih 0 (by omega) (by omega)

/-- The rest of the sequence, and nothing else of its length, completes it. -/
theorem found_iff_rest (retest : Bool) (l : List Bool) (k : Nat) (hk : k < 13) (h : l.length = 13 - k) :
    true ∈ runBarker retest k l ↔ l = Config.barkerSeq.drop k := by
  induction l generalizing k with
  | nil => rw [List.length_nil] at h; omega
  | cons b l ih =>
    rw [List.length_cons] at h
    have hdrop : Config.barkerSeq.drop k = Config.barkerSeq.getD k false :: Config.barkerSeq.drop (k + 1) := by
      rw [List.drop_eq_getElem_cons (show k < Config.barkerSeq.length from hk), List.getD_eq_getElem]
    rw [runBarker, List.mem_cons, hdrop, List.cons.injEq]
    by_cases hb : b = Config.barkerSeq.getD k false
    · rw [hb, barkerStepWith_expected retest k hk]
      by_cases hlast : k = 12
      · subst hlast
        simpa [Config.barkerSeq] using List.length_eq_zero_iff.1 (by omega : l.length = 0)
      · simp only [if_neg hlast, Bool.true_eq_false, false_or, true_and]
        exact ih (k + 1) (by omega) (by omega)
    · rw [barkerStepWith_other retest k b hk hb]
      simp only [hb, Bool.true_eq_false, false_or, false_and, iff_false]
      split
      · exact not_found_of_short retest l 1 (by omega) (by omega)
      · exact not_found_of_short retest l 0 (by omega) (by omega)

/-- From the start the sequence is found at its last input and not before. -/
theorem runBarker_sequence (retest : Bool) :
    runBarker retest 0 Config.barkerSeq = List.replicate 12 false ++ [true] := by
  cases retest <;> decide

/-- Settles O41: the expected input and the others, and the sequences that complete the pattern. -/
theorem barkerMatcherFindsOnlyThePattern : Obligations.BarkerMatcherFindsOnlyThePattern := by
  refine ⟨fun k b hk => ?_, fun retest => ⟨barkerStepWith_expected retest, runBarker_sequence retest,
    fun k l => found_iff_rest retest l k, barkerStepWith_other retest⟩⟩
  rw [barkerStep_eq, BitVec.toNat_ofNat, Nat.mod_eq_of_lt (by omega)]

/-! ### BARKER_RESET and BARKER_STEP (R130, R131) -/

/-- The machine's registers after one input in state k < 13. -/
theorem feedBarker_of_expected (s : State) (b expected : Bool)
    (h : Config.barkerSeq[s.rx.barkerState.toNat]? = some expected) :
    s.feedBarker b
      = { s with
          rx :=
            { s.rx with
              barkerState :=
                (if b = expected then (if s.rx.barkerState = 12#5 then 0#5 else s.rx.barkerState + 1#5) else 0#5) }
          status := { s.status with barkerFound := decide (b = expected ∧ s.rx.barkerState = 12#5) } } := by
  have hk : s.rx.barkerState.toNat < 13 := (List.getElem?_eq_some_iff.1 h).1
  obtain rfl := Option.some.inj ((barkerSeq_getElem? _ hk).symm.trans h)
  have hlast : s.rx.barkerState.toNat = 12 ↔ s.rx.barkerState = 12#5 := by bv_omega
  rw [State.feedBarker, barkerStep_eq]
  by_cases hb : b = Config.barkerSeq.getD s.rx.barkerState.toNat false
  · rw [hb, barkerStepWith_expected false _ hk]
    simp only [hlast, if_true, true_and]
    split
    · rename_i h12
      simp only [h12, decide_true]
    · rename_i h12
      simp only [h12, decide_false, BitVec.ofNat_add, BitVec.ofNat_toNat, BitVec.setWidth_eq]
  · rw [barkerStepWith_other false _ b hk hb]
    simp only [hb, Bool.false_eq_true, false_and, if_false, decide_false]

theorem exec_barkerReset (s : State) : exec .barkerReset s = execBarkerReset s := rfl

theorem exec_barkerStep (imm8 : Byte) (s : State) : exec (.barkerStep imm8) s = execBarkerStep imm8 s := rfl

/-- IMM8 with one of the bits [7:1] set fails the format (R56). -/
theorem immOk_cb_eq_false (imm8 : Byte) (h : imm8.extractLsb' 1 7 ≠ 0#7) : Format.cb.immOk imm8 = false :=
  beq_false_of_ne h

theorem immOk_cb_bit (b : Bool) : Format.cb.immOk (if b then 1#8 else 0#8) = true := by cases b <;> decide

theorem bit_zero_of_imm (b : Bool) : (if b then 1#8 else 0#8 : Byte).getLsbD 0 = b := by cases b <;> decide

/-- Settles O20: the checks of each command, and the machine's registers after the one input. -/
theorem barkerCommandsRunMachine : Obligations.BarkerCommandsRunMachine := by
  refine ⟨fun s hrx => ⟨?resetHazard, fun b => ?stepHazard⟩, fun s imm8 himm => ?illegal, fun s hrx => ?reset,
    fun s b expected hrx hexp => ?step⟩
  case resetHazard =>
    rw [exec_barkerReset, execBarkerReset, hazardCheck, hrx]
    exact runCommand_contract _ _ _ s .eHazard rfl rfl
  case stepHazard =>
    rw [exec_barkerStep, execBarkerStep, immOk_cb_bit, hazardCheck, hrx]
    exact runCommand_contract _ _ _ s .eHazard rfl rfl
  case illegal =>
    rw [exec_barkerStep, execBarkerStep, immOk_cb_eq_false _ himm]
    exact runCommand_contract _ _ _ s .eIllegal rfl rfl
  case reset =>
    rw [exec_barkerReset, execBarkerReset, hazardCheck_of_disabled s hrx]
    exact runCommand_executed _ _ _ s _ .ok rfl rfl
  case step =>
    rw [exec_barkerStep, execBarkerStep, immOk_cb_bit, hazardCheck_of_disabled s hrx, bit_zero_of_imm,
      feedBarker_of_expected s b expected hexp]
    exact runCommand_executed _ _ _ s _ .ok rfl rfl

end Sys2Proof.Machine
end

section
/-! SUPPORT. What a window step leaves alone: the receiver's own fields set aside, the rest of the state after each
operation of the receiver, and the bytes outside PAY_RX and FRAME_RX (spec/45_detector.md R119, R120,
spec/46_receiver.md R139, spec/70_reset_and_hazards.md R159). -/

namespace Sys2Proof.Machine

/-! ### The receiver's fields set aside -/

/-- The state without what the receiver may write: its own registers, the frame result set, the buffer, and the events
other than CMD_DONE, CMD_ERR and FAULT. Two states that agree here agree on everything else. -/
def State.apartFromReceiver (s : State) : State :=
  { s with
    rx := .zero
    prev := none
    pipe := .zero
    rxh := .zero
    part := .zero
    codec := { CodecRegs.zero with corrRs := s.codec.corrRs }
    status := ⟨s.status.fault, false, false, false, false⟩
    lfsrRx := 0#9
    mem := []
    draws := 0
    event := s.event &&& 0x403#11 }

/-- From the first state to the second only the receiver has written: its own fields, events, and bytes of PAY_RX and,
while PIPE_COUNT stays in it, FRAME_RX. -/
def WritesReceiverOnly (s t : State) : Prop :=
  t.apartFromReceiver = s.apartFromReceiver
    ∧ t.event &&& s.event = s.event
    ∧ (s.pipe.count.toNat < 2048 →
        ∀ a : Nat, outsideRegion a (0x0400, 0x0400) → outsideRegion a (0x1000, 0x0800) →
        Memory.read t.mem a = Memory.read s.mem a)

theorem writesReceiverOnly_refl (s : State) : WritesReceiverOnly s s := ⟨rfl, BitVec.and_self, fun _ _ _ _ => rfl⟩

theorem writesReceiverOnly_emit (s t : State) (e : BitVec 11) (h : WritesReceiverOnly s t)
    (he : e &&& 0x403#11 = 0#11) :
    WritesReceiverOnly s (t.emit e) := by
  obtain ⟨hrest, hevent, hmem⟩ := h
  refine ⟨?_, ?_, hmem⟩
  · rw [← hrest]
    simp only [State.apartFromReceiver, State.emit, BitVec.and_or_distrib_right, he, BitVec.or_zero]
  · rw [emit_event, BitVec.and_or_distrib_right, hevent]
    ext i hi
    simp only [BitVec.getElem_or, BitVec.getElem_and]
    cases s.event[i] <;> simp

theorem writesReceiverOnly_rxReset (s t : State) (h : WritesReceiverOnly s t) : WritesReceiverOnly s t.rxReset := h

/-- The result set of an accepted frame: its payload fits in PAY_RX. -/
theorem writesReceiverOnly_setFrameResult (s t : State) (h : HeaderRegs) (hs : List Byte) (ch : Nat) (r : PayResult)
    (hst : WritesReceiverOnly s t) (hsize : h.size.toNat ≤ 1024) :
    WritesReceiverOnly s (t.setFrameResult payRx h hs ch r) := by
  obtain ⟨hrest, hevent, hmem⟩ := hst
  refine ⟨hrest, hevent, fun hcount a hpay hframe => ?_⟩
  rw [setFrameResult_mem, read_writeBytes_outside, hmem hcount a hpay hframe]
  refine hpay.imp_right (Nat.le_trans (Nat.add_le_add_left ?_ _))
  exact (List.length_take_le _ _).trans hsize

/-! ### The receiver's operations -/

theorem effect_pipeAddByte_apart (b : Byte) (s s' : State) (h : Effect s (.pipeAddByte b) s') :
    s'.apartFromReceiver = s.apartFromReceiver := by
  cases h <;> rfl

/-- One byte into the pipe (R136). -/
theorem pipeAdd_writes (b : Byte) (s : State) (out : PipeOut) (hout : pipeAdd b s = .ok out) :
    WritesReceiverOnly s out.state := by
  have heffect := effect_pipeAdd b s out hout
  obtain ⟨bytes, hlen, hmem⟩ := effect_mem _ _ _ heffect
  refine ⟨?_, ?_, fun hcount a _ hframe => ?_⟩
  · exact effect_pipeAddByte_apart b s _ heffect
  · obtain ⟨-, hevent, -⟩ := effect_control _ _ _ heffect
    rw [hevent, BitVec.and_self]
  · rw [hmem]
    refine read_writeBytes_outside _ _ _ _ ?_
    simp only [storeRegion, frameRx] at hlen ⊢
    unfold outsideRegion at hframe
    omega

/-- The work of a completed frame (R139). -/
theorem frameDone_writes (n : Nat) (s t t' : State) (h : WritesReceiverOnly s t) (ht : frameDone n t = .ok t') :
    WritesReceiverOnly s t' := by
  unfold frameDone at ht
  dsimp only at ht
  split at ht
  · cases ht
  · rename_i code t2 hdecode
    cases ht
    refine writesReceiverOnly_emit s t2 _ ?_ rfl
    have hstart : WritesReceiverOnly s (if t.event &&& Ev.frameReady ≠ 0#11 then t.emit Ev.rxOverrun else t) := by
      split
      · exact writesReceiverOnly_emit s t _ h rfl
      · exact h
    obtain ⟨rfl, -⟩ | ⟨-, header, hdr, hs, ch, lfsr, wire, -, hgood, -, -, -, rfl⟩ :=
      decodeFrameAt_ok _ _ _ _ _ _ hdecode
    · exact hstart
    · have hsize := le_maxPayload_of_accepted _ (hdrCheck_good_accepts _ _ _ _ _ hgood)
      exact writesReceiverOnly_setFrameResult s _ hdr hs ch _ hstart (by omega)

/-- The byte that the eighth bit completes (R134). -/
theorem rxByte_writes (b : Byte) (s t : State) (ht : rxByte b s = .ok t) : WritesReceiverOnly s t := by
  obtain ⟨out, hout, hcases⟩ := (rxByte_ok_iff b s t).1 ht
  have hpipe := pipeAdd_writes b s out hout
  obtain ⟨-, rfl⟩ | ⟨-, -, s', hdone, rfl⟩ | ⟨-, -, rfl⟩ := hcases
  · exact writesReceiverOnly_rxReset s _ (writesReceiverOnly_emit s _ _ hpipe rfl)
  · exact writesReceiverOnly_rxReset s _ (frameDone_writes _ s _ s' hpipe hdone)
  · exact hpipe

/-- A bit decision (R133, R134). -/
theorem rxBit_writes (d : Dsp) (p w : Window) (s t : State) (ht : rxBit d p w s = .ok t) : WritesReceiverOnly s t := by
  unfold rxBit at ht
  dsimp only at ht
  split at ht
  · cases ht
    exact writesReceiverOnly_refl s
  · exact rxByte_writes _ { s with prev := some w, rx := { s.rx with shift := 0#8, bitCount := 0#3 } } t ht

/-- A search window (R121). -/
theorem searchStep_writes (d : Dsp) (w : Window) (s : State) : WritesReceiverOnly s (searchStep d w s) := by
  have hcount : WritesReceiverOnly s (s.countSearch (coherent d s w)) := writesReceiverOnly_refl s
  unfold searchStep
  dsimp only
  split
  · exact writesReceiverOnly_emit s { s.countSearch _ with rx := _ } _ hcount rfl
  · split
    · exact writesReceiverOnly_rxReset s _ (writesReceiverOnly_emit s _ _ hcount rfl)
    · exact hcount

/-- A matching window (R123). -/
theorem barkerMatch_writes (d : Dsp) (p w : Window) (s : State) : WritesReceiverOnly s (barkerMatch d p w s) := by
  have hfed : WritesReceiverOnly s (s.feedBarker (flip d p w)) := writesReceiverOnly_refl s
  unfold barkerMatch
  dsimp only
  split
  · exact writesReceiverOnly_emit s { s.feedBarker _ with prev := _, rx := _ } _ hfed rfl
  · split
    · exact writesReceiverOnly_rxReset s _
        (writesReceiverOnly_emit s { s.feedBarker _ with prev := _, rx := _ } _ hfed rfl)
    · exact hfed

/-- One window in each state of the receiver (R120). -/
theorem rxWindow_writes (d : Dsp) (w : Window) (s t : State) (ht : rxWindow d w s = .ok t) :
    WritesReceiverOnly s t := by
  unfold rxWindow at ht
  split at ht
  case h_1 | h_2 => cases ht; exact searchStep_writes d w s
  case h_3 => cases ht; exact writesReceiverOnly_refl s
  case h_4 =>
    obtain ⟨p, -, hp⟩ := (withPrev_ok _ _ _).1 ht
    cases hp
    exact barkerMatch_writes d p w s
  case h_5 =>
    split at ht
    · cases ht
      exact writesReceiverOnly_refl s
    · obtain ⟨p, -, hp⟩ := (withPrev_ok _ _ _).1 ht
      exact rxBit_writes d p w { s with rx := { s.rx with state := .rxData } } t hp
  case h_6 =>
    obtain ⟨p, -, hp⟩ := (withPrev_ok _ _ _).1 ht
    exact rxBit_writes d p w s t hp

/-- A window moves the stream position on; for the rest only the receiver writes (R114, R116). -/
theorem rxStep_writes (d : Dsp) (w : Window) (sq : Bool) (s t : State) (ht : rxStep d w sq s = .next t) :
    WritesReceiverOnly { s with rxPos := s.rxPos + 1 } t := by
  have hmoved := writesReceiverOnly_refl { s with rxPos := s.rxPos + 1 }
  rcases Bool.eq_false_or_eq_true s.rxEn with hrx | hrx
  · cases sq with
    | true =>
      rw [rxStep_squelched d w s hrx] at ht
      cases ht
      exact writesReceiverOnly_rxReset _ _ (writesReceiverOnly_emit _ _ _ hmoved rfl)
    | false => exact rxWindow_writes d w _ t ((rxStep_next_iff d w s t hrx).1 ht)
  · rw [rxStep_disabled d w sq s hrx] at ht
    cases ht
    exact hmoved

/-- Events are only ever set (R24). -/
theorem rxStep_event (d : Dsp) (w : Window) (sq : Bool) (s t : State) (ht : rxStep d w sq s = .next t) :
    t.event &&& s.event = s.event := by
  obtain ⟨-, hevent, -⟩ := rxStep_writes d w sq s t ht
  exact hevent

/-- A field that is none of the receiver's stays, but for the stream position. -/
theorem rxStep_field {α : Type} (d : Dsp) (w : Window) (sq : Bool) (s t : State) (ht : rxStep d w sq s = .next t)
    (field : State → α) (hfield : ∀ x : State, field x.apartFromReceiver = field x) :
    field t = field { s with rxPos := s.rxPos + 1 } := by
  obtain ⟨hrest, -⟩ := rxStep_writes d w sq s t ht
  rw [← hfield t, hrest, hfield]

theorem rxStep_rxEn (d : Dsp) (w : Window) (sq : Bool) (s t : State) (ht : rxStep d w sq s = .next t) :
    t.rxEn = s.rxEn := rxStep_field d w sq s t ht State.rxEn fun _ => rfl

theorem rxStep_cfg (d : Dsp) (w : Window) (sq : Bool) (s t : State) (ht : rxStep d w sq s = .next t) :
    t.cfg = s.cfg := rxStep_field d w sq s t ht State.cfg fun _ => rfl

/-- Settles O49: only the receiver writes, and the disabled receiver writes nothing. -/
theorem windowStepFrame : Obligations.WindowStepFrame := by
  intro d w sq s t ht
  obtain ⟨hrest, hevent, hmem⟩ := rxStep_writes d w sq s t ht
  refine ⟨⟨rxStep_rxEn d w sq s t ht, rxStep_field d w sq s t ht State.cmd fun _ => rfl,
      rxStep_field d w sq s t ht State.pending fun _ => rfl, rxStep_field d w sq s t ht State.result fun _ => rfl,
      rxStep_field d w sq s t ht State.irqEn fun _ => rfl, rxStep_field d w sq s t ht State.faultInfo fun _ => rfl,
      rxStep_field d w sq s t ht (·.status.fault) fun _ => rfl, rxStep_field d w sq s t ht State.args fun _ => rfl,
      rxStep_field d w sq s t ht State.txFrameLen fun _ => rfl, rxStep_field d w sq s t ht State.txh fun _ => rfl,
      rxStep_field d w sq s t ht State.lfsrTx fun _ => rfl, rxStep_field d w sq s t ht (·.codec.corrRs) fun _ => rfl,
      rxStep_cfg d w sq s t ht, rxStep_field d w sq s t ht State.inputs fun _ => rfl,
      rxStep_field d w sq s t ht State.busOut fun _ => rfl, rxStep_field d w sq s t ht State.rxPos fun _ => rfl⟩,
    ⟨hevent, congrArg State.event hrest⟩, hmem, fun hrx => ?_⟩
  rw [rxStep_disabled d w sq s hrx] at ht
  cases ht
  rfl

end Sys2Proof.Machine
end

section
/-! SUPPORT. Runs of windows and the budgets: a run that must end a phase, the search without a coherent window, the
separator, and how far a frame is from its end (spec/45_detector.md R126). -/

namespace Sys2Proof.Machine

/-! ### Runs -/

theorem runWindows_nil (d : Dsp) (s : State) : runWindows d [] s = .next s := rfl

theorem runWindows_cons (d : Dsp) (w : Window) (ws : List Window) (s t : State) (h : rxStep d w false s = .next t) :
    runWindows d (w :: ws) s = runWindows d ws t := by
  simp only [runWindows, h]

theorem runWindows_cons_next_iff (d : Dsp) (w : Window) (ws : List Window) (s t : State) :
    runWindows d (w :: ws) s = .next t ↔ ∃ u, rxStep d w false s = .next u ∧ runWindows d ws u = .next t := by
  cases hw : rxStep d w false s <;> simp [runWindows, hw]

theorem runWindows_append (d : Dsp) (us ws : List Window) (s t : State) (h : runWindows d us s = .next t) :
    runWindows d (us ++ ws) s = runWindows d ws t := by
  induction us generalizing s with
  | nil =>
    cases h
    rfl
  | cons u us ih =>
    obtain ⟨s', hu, hus⟩ := (runWindows_cons_next_iff d u us s t).1 h
    exact (runWindows_cons d u (us ++ ws) s s' hu).trans (ih s' hus)

/-- What every window keeps a run keeps. -/
theorem runWindows_keeps (d : Dsp) (P : State → Prop)
    (hstep : ∀ (w : Window) (s t : State), P s → rxStep d w false s = .next t → P t) (ws : List Window) (s t : State)
    (hs : P s) (h : runWindows d ws s = .next t) : P t := by
  induction ws generalizing s with
  | nil =>
    cases h
    exact hs
  | cons w ws ih =>
    obtain ⟨s', hw, hws⟩ := (runWindows_cons_next_iff d w ws s t).1 h
    exact ih s' (hstep w s s' hs hw) hws

theorem inv_runWindows (d : Dsp) (ws : List Window) (s t : State) (hs : Inv s) (h : runWindows d ws s = .next t) :
    Inv t := runWindows_keeps d Inv (fun w s t => inv_rxStep d w false s t) ws s t hs h

/-- A run clears no event (R24). -/
theorem runWindows_event (d : Dsp) (ws : List Window) (s t : State) (i : Nat) (hs : s.event.getLsbD i = true)
    (h : runWindows d ws s = .next t) : t.event.getLsbD i = true := by
  refine runWindows_keeps d (fun s => s.event.getLsbD i = true) (fun w s t hset hw => ?_) ws s t hs h
  have hkept := congrArg (·.getLsbD i) (rxStep_event d w false s t hw)
  simpa [hset] using hkept

/-- A phase in which every window either ends it or brings its end nearer is over when the windows are. -/
theorem exists_run_until (d : Dsp) (going done : State → Prop) (left : State → Nat)
    (hpos : ∀ s, going s → 0 < left s)
    (hstep : ∀ (w : Window) (s : State), going s →
      ∃ t, rxStep d w false s = .next t ∧ (done t ∨ going t ∧ left t < left s))
    (ws : List Window) (s : State) (hs : going s) (hlen : left s ≤ ws.length) :
    ∃ n ≤ ws.length, 0 < n ∧ ∃ t, runWindows d (ws.take n) s = .next t ∧ done t := by
  induction ws generalizing s with
  | nil => exact absurd (hpos s hs) (Nat.not_lt.2 hlen)
  | cons w ws ih =>
    rw [List.length_cons] at hlen ⊢
    obtain ⟨t, hw, hdone | ⟨hgoing, hless⟩⟩ := hstep w s hs
    · exact ⟨1, by omega, by omega, t, runWindows_cons d w [] s t hw, hdone⟩
    · obtain ⟨n, hn, -, t', hrun, hdone⟩ := ih t hgoing (by omega)
      exact ⟨n + 1, by omega, by omega, t', (runWindows_cons d w _ s t hw).trans hrun, hdone⟩

/-! ### The search without a coherent window (R121) -/

/-- Below the budget only the two counters change. -/
theorem runWindows_incoherent (d : Dsp) (ws : List Window) (s : State) (hrx : s.rxEn = true) (hs : s.rx.state = .idle)
    (hleft : s.rx.winCount.toNat + ws.length < max s.cfg.maxOffset.toNat 1)
    (hws : ∀ w ∈ ws, (d.coh w).val ≤ s.cfg.cohThresh.toNat) :
    ∃ win coh, runWindows d ws s
        = .next { s with rxPos := s.rxPos + ws.length, rx := { s.rx with winCount := win, cohCount := coh } }
      ∧ win.toNat = s.rx.winCount.toNat + ws.length := by
  induction ws generalizing s with
  | nil => exact ⟨s.rx.winCount, s.rx.cohCount, rfl, rfl⟩
  | cons w ws ih =>
    obtain ⟨hw, hws⟩ := List.forall_mem_cons.1 hws
    rw [List.length_cons] at hleft
    have hwin : (satSucc s.rx.winCount).toNat = s.rx.winCount.toNat + 1 :=
      satSucc_toNat_of_lt _ s.cfg.maxOffset (by omega)
    have hstep := rxStep_search_continue d w s hrx (.inl hs) (cohAfter_lt_threshold d w s hw) (by omega)
    have hidle : stateAfter d w s = .idle := if_neg (Nat.not_lt.2 hw)
    obtain ⟨win, coh, hrun, hcount⟩ := ih (searchOn d w s) hrx hidle (by simp only [searchOn]; omega) hws
    refine ⟨win, coh, ?_, by rw [hcount, List.length_cons]; simp only [searchOn]; omega⟩
    rw [runWindows_cons d w ws s _ hstep, hrun]
    simp only [searchOn, hidle, ← hs, List.length_cons, Nat.add_assoc, Nat.add_comm 1]

/-- Settles O44: a shorter run only counts, and the last window spends the budget. -/
theorem noCarrierExactlyAtBudget : Obligations.NoCarrierExactlyAtBudget := by
  intro d s ws hrx hs hwin hlen hws
  have hwin0 : s.rx.winCount.toNat = 0 := by rw [hwin]; rfl
  refine ⟨fun n hn => ?shorter, ?whole⟩
  case shorter =>
    have htake : (ws.take n).length = n := by rw [List.length_take]; omega
    obtain ⟨win, coh, hrun, hcount⟩ := runWindows_incoherent d (ws.take n) s hrx hs (by omega) fun w hw =>
      hws w (List.mem_of_mem_take hw)
    exact ⟨_, hrun, rfl, hs, by rw [hcount, hwin0, htake, Nat.zero_add]⟩
  case whole =>
    obtain rfl | ⟨us, w, rfl⟩ := List.eq_nil_or_concat' ws
    · rw [List.length_nil] at hlen; omega
    rw [List.length_append, List.length_singleton] at hlen
    obtain ⟨win, coh, hrun, hcount⟩ := runWindows_incoherent d us s hrx hs (by omega) fun u hu =>
      hws u (List.mem_append_left _ hu)
    have hcoh : (d.coh w).val ≤ s.cfg.cohThresh.toNat := hws w (by simp)
    have hstep := rxStep_search_noCarrier d w
      { s with rxPos := s.rxPos + us.length, rx := { s.rx with winCount := win, cohCount := coh } } hrx (.inl hs)
      (cohAfter_lt_threshold d w _ hcoh)
      (le_satSucc_toNat _ _ (by dsimp only; omega))
    exact ⟨_, (runWindows_append d us [w] s _ hrun).trans (runWindows_cons d w [] _ _ hstep), rfl, rfl, rfl, hrx, rfl⟩

/-! ### The separator (R124) -/

/-- The state in which all separator windows have been discarded. -/
def separatorTaken (ws : List Window) (p : Window) (s : State) : State :=
  { s with
    rxPos := s.rxPos + ws.length
    prev := some (ws.getLastD p)
    rx := { s.rx with sepRemaining := 0#16 } }

/-- The separator's windows are counted off, and the last one is the phase reference. -/
theorem runWindows_separator (d : Dsp) (ws : List Window) (p : Window) (s : State) (hrx : s.rxEn = true)
    (hs : s.rx.state = .synchronized) (hp : s.prev = some p) (hlen : ws.length = s.rx.sepRemaining.toNat) :
    runWindows d ws s = .next (separatorTaken ws p s) := by
  induction ws generalizing s p with
  | nil =>
    have hsep : 0#16 = s.rx.sepRemaining := BitVec.eq_of_toNat_eq hlen
    rw [runWindows_nil, separatorTaken, hsep, List.getLastD_nil, ← hp]
    rfl
  | cons w ws ih =>
    rw [List.length_cons] at hlen
    have hsep : s.rx.sepRemaining ≠ 0#16 := by
      intro h0
      rw [h0] at hlen
      cases hlen
    have hrest : ws.length = (s.rx.sepRemaining - 1#16).toNat := by bv_omega
    rw [runWindows_cons d w ws s _ (rxStep_separator d w s hrx hs hsep), 
      ih w (separatorDiscard w { s with rxPos := s.rxPos + 1 }) hrx hs rfl hrest]
    simp only [separatorTaken, separatorDiscard, List.getLastD_cons, List.length_cons, Nat.add_assoc, Nat.add_comm 1]

/-! ### The frame's end (R136) -/

/-- The most bytes the pipe can still take: the countdown, or before the header all that the longest frame leaves. -/
def pipeBytesLeft (s : State) : Nat :=
  if s.status.pipeHdrKnown then s.pipe.remaining.toNat else 1337 - s.pipe.count.toNat

theorem pipeBytesLeft_of_known (s : State) (h : s.status.pipeHdrKnown = true) :
    pipeBytesLeft s = s.pipe.remaining.toNat := if_pos h

theorem pipeBytesLeft_of_unknown (s : State) (h : s.status.pipeHdrKnown = false) :
    pipeBytesLeft s = 1337 - s.pipe.count.toNat := by simp [pipeBytesLeft, h]

theorem pipeBytesLeft_bounds (s : State) (h : pipeCountersAgree s = true) :
    1 ≤ pipeBytesLeft s ∧ pipeBytesLeft s ≤ 1337 := by
  cases hk : s.status.pipeHdrKnown with
  | true =>
    obtain ⟨-, hpos, htotal, hmax⟩ := (pipeCountersAgree_of_known s hk).1 h
    rw [pipeBytesLeft_of_known s hk]
    omega
  | false =>
    have hlt := pipeCount_lt s h
    rw [pipeBytesLeft_of_unknown s hk]
    omega

/-- The end of a pipe byte that completes nothing. -/
theorem pipeFinish_state_of_open (s : State) (r f : Int)
    (h : (s.status.pipeHdrKnown && s.pipe.remaining == 0#16) = false) :
    (pipeFinish s r f).state = { s with pipe := { s.pipe with result := pipePair r f } } := by
  rw [pipeFinish, h]
  rfl

theorem pipeAdd_rx (b : Byte) (s : State) (out : PipeOut) (hout : pipeAdd b s = .ok out) : out.state.rx = s.rx := by
  obtain ⟨hrx, -⟩ := effect_barker _ _ _ (effect_pipeAdd b s out hout) ⟨nofun, nofun⟩
  exact hrx

/-- A byte that neither fails the header nor completes the frame brings the frame's end nearer. -/
theorem pipeAdd_progress (b : Byte) (s : State) (out : PipeOut) (hs : pipeCountersAgree s = true)
    (hout : pipeAdd b s = .ok out) (hfailed : out.failed.isSome = false) (hopen : out.done = false) :
    pipeBytesLeft out.state < pipeBytesLeft s := by
  have hlt := pipeCount_lt s hs
  have hsucc : (s.pipe.count + 1#16).toNat = s.pipe.count.toNat + 1 := by
    rw [BitVec.toNat_add_of_lt] <;> simp; omega
  obtain ⟨-, ⟨hk, rfl⟩ | ⟨hk, hshort, rfl⟩ | ⟨hk, hfull, header, -, hheader⟩⟩ := pipeAdd_ok b s out hout
  case inl =>
    obtain ⟨-, hpos, -⟩ := (pipeCountersAgree_of_known s hk).1 hs
    rw [pipeFinish_done] at hopen
    rw [pipeFinish_state_of_open _ _ _ hopen, pipeBytesLeft_of_known _ (by exact hk), pipeBytesLeft_of_known s hk]
    change (s.pipe.remaining - 1#16).toNat < s.pipe.remaining.toNat
    bv_omega
  case inr.inl =>
    rw [pipeFinish_done] at hopen
    rw [pipeFinish_state_of_open _ _ _ hopen, pipeBytesLeft_of_unknown _ (by exact hk), pipeBytesLeft_of_unknown s hk]
    simp only [pipeStore_pipe_count, hsucc]
    omega
  case inr.inr =>
    obtain ⟨-, rfl⟩ | ⟨-, rfl⟩ | ⟨hdr, hs', ch, lfsr, hgood, rfl⟩ := hheader
    · cases hfailed
    · cases hfailed
    · have hraw := rawSize_le _ (hdrCheck_good_accepts _ _ _ _ _ hgood)
      obtain ⟨hcnt, -⟩ := (pipeCountersAgree_of_unknown s hk).1 hs
      rw [pipeFinish_done] at hopen
      rw [pipeFinish_state_of_open _ _ _ hopen, pipeBytesLeft_of_known _ rfl, pipeBytesLeft_of_unknown s hk]
      simp only [BitVec.toNat_ofNat]
      omega

/-- The windows a frame can still take. -/
def dataWindowsLeft (s : State) : Nat := 8 * pipeBytesLeft s - s.rx.bitCount.toNat

/-- A data window ends the frame, one way or the other, or brings its end nearer (R133, R134). -/
theorem rxStep_data_progress (d : Dsp) (w : Window) (s : State) (hinv : Inv s) (hrx : s.rxEn = true) (hs : InData s) :
    ∃ t, rxStep d w false s = .next t
      ∧ (t.rx.state = .idle ∨ t.rx.state = .rxData ∧ dataWindowsLeft t < dataWindowsLeft s) := by
  have hneeds : s.rx.state.needsPrev = true := by
    obtain hs | ⟨hs, -⟩ := hs <;> rw [hs] <;> rfl
  obtain ⟨p, hp⟩ := Option.isSome_iff_exists.1 ((prev_isSome_of_inv s hinv).trans hneeds)
  obtain ⟨-, hcounters, -⟩ := (inv_iff s).1 hinv
  obtain ⟨hleft, -⟩ := pipeBytesLeft_bounds s hcounters
  by_cases hcount : s.rx.bitCount = 7#3
  · obtain ⟨t, ht⟩ := rxStep_isNext d w false s hinv
    refine ⟨t, ht, ?_⟩
    have hbyte := (rxStep_eighthBit_next_iff d w p s t hrx hs hp hcount).1 ht
    obtain ⟨out, hout, hcases⟩ := (rxByte_ok_iff _ _ _).1 hbyte
    obtain ⟨-, rfl⟩ | ⟨-, -, s', -, rfl⟩ | ⟨hfailed, hopen, rfl⟩ := hcases
    · exact .inl rfl
    · exact .inl rfl
    · have hless := pipeAdd_progress _ _ out (by exact hcounters) hout hfailed hopen
      replace hless : pipeBytesLeft out.state < pipeBytesLeft s := hless
      right
      rw [dataWindowsLeft, dataWindowsLeft, pipeAdd_rx _ _ out hout, hcount]
      simp only [true_and, BitVec.toNat_ofNat]
      omega
  · refine ⟨_, rxStep_dataBit d w p s hrx hs hp hcount, .inr ⟨rfl, ?_⟩⟩
    have hlt := bitCount_lt_seven _ hcount
    change 8 * pipeBytesLeft s - (s.rx.bitCount + 1#3).toNat < 8 * pipeBytesLeft s - s.rx.bitCount.toNat
    bv_omega

theorem dataWindowsLeft_bounds (s : State) (h : Inv s) : 0 < dataWindowsLeft s ∧ dataWindowsLeft s ≤ 8 * 1337 := by
  obtain ⟨-, hcounters, -⟩ := (inv_iff s).1 h
  have hleft := pipeBytesLeft_bounds s hcounters
  have hbits := s.rx.bitCount.isLt
  unfold dataWindowsLeft
  omega

/-- The receiver takes a frame's bits, in a state that meets the invariant. -/
def Receiving (s : State) : Prop := Inv s ∧ s.rxEn = true ∧ s.rx.state = .rxData

theorem dataWindowsLeft_pos (s : State) (hs : Receiving s) : 0 < dataWindowsLeft s := by
  obtain ⟨hinv, -, -⟩ := hs
  obtain ⟨hpos, -⟩ := dataWindowsLeft_bounds s hinv
  exact hpos

theorem rxStep_receiving_progress (d : Dsp) (w : Window) (s : State) (hs : Receiving s) :
    ∃ t, rxStep d w false s = .next t
      ∧ (t.rx.state = .idle ∨ Receiving t ∧ dataWindowsLeft t < dataWindowsLeft s) := by
  obtain ⟨hinv, hrx, hs⟩ := hs
  obtain ⟨t, ht, hidle | ⟨hdata, hless⟩⟩ := rxStep_data_progress d w s hinv hrx (.inl hs)
  · exact ⟨t, ht, .inl hidle⟩
  · exact ⟨t, ht, .inr
      ⟨⟨inv_rxStep d w false s t hinv ht, (rxStep_rxEn d w false s t ht).trans hrx, hdata⟩, hless⟩⟩

/-! ### Every phase ends (R126) -/

/-- The windows the search can still take. -/
def searchWindowsLeft (s : State) : Nat := max (s.cfg.maxOffset.toNat - s.rx.winCount.toNat) 1

/-- How the search ends: with a lock, or with NO_CARRIER and a fresh search. -/
def SearchEnded (t : State) : Prop :=
  t.rx.state = .carrierLocked ∧ t.event.getLsbD 7 = true
    ∨ t.rx.state = .idle ∧ t.rx.winCount = 0#32 ∧ t.event.getLsbD 4 = true

theorem rxStep_search_progress (d : Dsp) (w : Window) (s : State) (hs : s.rxEn = true ∧ InSearch s) :
    ∃ t, rxStep d w false s = .next t
      ∧ (SearchEnded t ∨ (t.rxEn = true ∧ InSearch t) ∧ searchWindowsLeft t < searchWindowsLeft s) := by
  obtain ⟨hrx, hs⟩ := hs
  rcases Nat.lt_or_ge (cohAfter d w s).toNat (max s.cfg.carrierThreshold.toNat 1) with hlow | hlock
  · rcases Nat.lt_or_ge (satSucc s.rx.winCount).toNat s.cfg.maxOffset.toNat with hleft | hspent
    · refine ⟨_, rxStep_search_continue d w s hrx hs hlow hleft, .inr ⟨⟨hrx, inSearch_searchOn d w s⟩, ?_⟩⟩
      have hwin := satSucc_toNat_of_satSucc_lt _ _ hleft
      simp only [searchWindowsLeft, searchOn]
      omega
    · refine ⟨_, rxStep_search_noCarrier d w s hrx hs hlow hspent, .inl (.inr ⟨rfl, rfl, ?_⟩)⟩
      simp [Ev.noCarrier]
  · refine ⟨_, rxStep_search_lock d w s hrx hs hlock, .inl (.inl ⟨rfl, ?_⟩)⟩
    simp [Ev.carrierLock]

/-- The windows the matching can still take. -/
def matchingWindowsLeft (s : State) : Nat := max (s.cfg.barkerMax.toNat - s.rx.barkerCount.toNat) 1

/-- The receiver matches, enabled and with a phase reference. -/
def Matching (s : State) : Prop := s.rxEn = true ∧ s.rx.state = .barkerMatching ∧ s.prev.isSome = true

/-- How the matching ends: with SYNC_FOUND, or with NO_SYNC and the search. -/
def MatchingEnded (t : State) : Prop :=
  t.rx.state = .synchronized ∧ t.event.getLsbD 8 = true ∨ t.rx.state = .idle ∧ t.event.getLsbD 5 = true

theorem rxStep_matching_progress (d : Dsp) (w : Window) (s : State) (hs : Matching s) :
    ∃ t, rxStep d w false s = .next t
      ∧ (MatchingEnded t ∨ Matching t ∧ matchingWindowsLeft t < matchingWindowsLeft s) := by
  obtain ⟨hrx, hs, hprev⟩ := hs
  obtain ⟨p, hp⟩ := Option.isSome_iff_exists.1 hprev
  cases hfound : (barkerStep s.rx.barkerState (flip d p w)).2 with
  | true =>
    refine ⟨_, rxStep_matching_found d w p s hrx hs hp hfound, .inl (.inl ⟨rfl, ?_⟩)⟩
    simp [Ev.syncFound]
  | false =>
    rcases Nat.lt_or_ge (satSucc s.rx.barkerCount).toNat s.cfg.barkerMax.toNat with hleft | hspent
    · refine ⟨_, rxStep_matching_continue d w p s hrx hs hp hfound hleft, .inr ⟨⟨hrx, hs, rfl⟩, ?_⟩⟩
      have hcount := satSucc_toNat_of_satSucc_lt _ _ hleft
      simp only [matchingWindowsLeft, matchOn]
      omega
    · refine ⟨_, rxStep_matching_noSync d w p s hrx hs hp hfound hspent, .inl (.inr ⟨rfl, ?_⟩)⟩
      simp [Ev.noSync]

/-- Settles O45: in each phase every window ends it or brings its end nearer, and the windows given suffice. -/
theorem receiverNeverStuck : Obligations.ReceiverNeverStuck := by
  intro d s ws hinv hrx
  refine ⟨fun hs hlen => ?search, fun hs w => ⟨_, rxStep_carrierLocked d w s hrx hs, rfl⟩,
    fun hs hlen => ?matching, fun hs hlen => ?separator, fun hs hlen => ?data⟩
  case search =>
    obtain ⟨n, hn, hpos, t, hrun, hend⟩ := exists_run_until d (fun t => t.rxEn = true ∧ InSearch t) SearchEnded
      searchWindowsLeft (fun t _ => Nat.le_max_right _ 1) (rxStep_search_progress d) ws s ⟨hrx, hs⟩
      (by unfold searchWindowsLeft; omega)
    exact ⟨n, hn, t, hrun, hend.imp_right fun hidle => ⟨hpos, hidle⟩⟩
  case matching =>
    have hprev : s.prev.isSome = true := by rw [prev_isSome_of_inv s hinv, hs]; rfl
    obtain ⟨n, hn, -, t, hrun, hend⟩ := exists_run_until d Matching MatchingEnded matchingWindowsLeft
      (fun t _ => Nat.le_max_right _ 1) (rxStep_matching_progress d) ws s ⟨hrx, hs, hprev⟩
      (by unfold matchingWindowsLeft; omega)
    exact ⟨n, hn, t, hrun, hend⟩
  case separator =>
    obtain ⟨p, hp⟩ := Option.isSome_iff_exists.1 ((prev_isSome_of_inv s hinv).trans (by rw [hs]; rfl))
    obtain rfl | ⟨us, w, rfl⟩ := List.eq_nil_or_concat' ws
    · cases hlen
    rw [List.length_append, List.length_singleton] at hlen
    have hrun := runWindows_separator d us p s hrx hs hp (by omega)
    obtain ⟨t, ht, hstate⟩ :=
      rxStep_data_progress d w _ (inv_runWindows d us s _ hinv hrun) hrx (.inr ⟨hs, rfl⟩)
    exact ⟨t, (runWindows_append d us [w] s _ hrun).trans (runWindows_cons d w [] _ t ht),
      hstate.elim .inr fun hdata => .inl hdata.1⟩
  case data =>
    obtain ⟨-, hmax⟩ := dataWindowsLeft_bounds s hinv
    obtain ⟨n, hn, -, t, hrun, hidle⟩ := exists_run_until d Receiving (fun t => t.rx.state = .idle) dataWindowsLeft
      dataWindowsLeft_pos (rxStep_receiving_progress d) ws s ⟨hinv, hrx, hs⟩ (hmax.trans hlen.ge)
    exact ⟨n, hn, t, hrun, hidle⟩

end Sys2Proof.Machine
end

section
/-! SUPPORT. A frame on its way into the pipe: the bits of a byte, the bytes the pipe holds, and the work of the
completed frame when nothing was changed on the way (spec/46_receiver.md R132 to R139, spec/44_frame_engine.md R111). -/

namespace Sys2Proof.Machine

/-! ### Bit decisions of a run (R132) -/

@[simp] theorem flipsOf_length (d : Dsp) (p : Window) (ws : List Window) : (flipsOf d p ws).length = ws.length := by
  induction ws generalizing p with
  | nil => rfl
  | cons w ws ih => simp only [flipsOf, List.length_cons, ih]

/-- Bits in two parts are decided by windows in two parts, the second against the last window of the first. -/
theorem flipsOf_eq_append (d : Dsp) (p : Window) (ws : List Window) (as bs : List Bool)
    (h : flipsOf d p ws = as ++ bs) :
    ∃ us vs, ws = us ++ vs ∧ flipsOf d p us = as ∧ flipsOf d (us.getLastD p) vs = bs := by
  induction as generalizing p ws with
  | nil => exact ⟨[], ws, rfl, rfl, h⟩
  | cons a as ih =>
    cases ws with
    | nil => cases h
    | cons w ws =>
      obtain ⟨hflip, hrest⟩ := List.cons.inj h
      obtain ⟨us, vs, rfl, hus, hvs⟩ := ih w ws hrest
      exact ⟨w :: us, vs, rfl, congrArg₂ List.cons hflip hus, by rwa [List.getLastD_cons]⟩

/-! ### One byte from eight windows (R133, R134) -/

/-- Eight bits shifted in replace SHIFT, whatever it was. -/
theorem foldl_pushBit_byteBits (shift b : Byte) : (byteBits b).foldl pushBit shift = b := by
  refine BitVec.eq_of_getElem_eq fun k hk => ?_
  rw [← BitVec.getLsbD_eq_getElem hk, ← BitVec.getLsbD_eq_getElem hk]
  simp only [byteBits, List.foldl, pushBit, BitVec.getLsbD_append, BitVec.getLsbD_ofBool, BitVec.getLsbD_extractLsb']
  interval_cases k <;> simp

/-- The state in which fewer than eight bits of a byte have been shifted in. -/
def bitsTaken (d : Dsp) (ws : List Window) (p : Window) (s : State) : State :=
  { s with
    rxPos := s.rxPos + ws.length
    prev := some (ws.getLastD p)
    rx :=
      { s.rx with
        shift := (flipsOf d p ws).foldl pushBit s.rx.shift
        bitCount := s.rx.bitCount + BitVec.ofNat 3 ws.length } }

/-- Bits before the eighth only fill SHIFT. -/
theorem runWindows_bits (d : Dsp) (ws : List Window) (p : Window) (s : State) (hrx : s.rxEn = true)
    (hs : s.rx.state = .rxData) (hp : s.prev = some p) (hlen : s.rx.bitCount.toNat + ws.length ≤ 7) :
    runWindows d ws s = .next (bitsTaken d ws p s) := by
  induction ws generalizing s p with
  | nil =>
    rw [runWindows_nil, bitsTaken, List.getLastD_nil, ← hp]
    simp [flipsOf]
  | cons w ws ih =>
    rw [List.length_cons] at hlen
    have hcount : s.rx.bitCount ≠ 7#3 := by
      intro h7
      rw [h7] at hlen
      simp at hlen
    have hnext : (s.rx.bitCount + 1#3).toNat = s.rx.bitCount.toNat + 1 := by bv_omega
    rw [runWindows_cons d w ws s _ (rxStep_dataBit d w p s hrx (.inl hs) hp hcount),
      ih w (dataBitOn d p w s) hrx rfl rfl (by simp only [dataBitOn, hnext]; omega)]
    simp only [bitsTaken, dataBitOn, flipsOf, List.foldl_cons, List.getLastD_cons, List.length_cons, Nat.add_assoc,
      Nat.add_comm 1, ← hs, BitVec.ofNat_add, BitVec.add_assoc, BitVec.add_comm 1#3]

/-- The state in which eight windows hand a byte to the pipe. -/
def byteTaken (ws : List Window) (p : Window) (s : State) : State :=
  { s with
    rxPos := s.rxPos + ws.length
    prev := some (ws.getLastD p)
    rx := { s.rx with state := .rxData, shift := 0#8, bitCount := 0#3 } }

/-- Eight windows that decide a byte's bits hand the byte to the pipe. -/
theorem runWindows_byte (d : Dsp) (ws : List Window) (p : Window) (b : Byte) (s t : State) (hrx : s.rxEn = true)
    (hs : s.rx.state = .rxData) (hcount : s.rx.bitCount = 0#3) (hp : s.prev = some p)
    (hws : flipsOf d p ws = byteBits b) (ht : rxByte b (byteTaken ws p s) = .ok t) : runWindows d ws s = .next t := by
  obtain ⟨us, vs, rfl, hus, hvs⟩ := flipsOf_eq_append d p ws [b.getLsbD 7, b.getLsbD 6, b.getLsbD 5, b.getLsbD 4,
    b.getLsbD 3, b.getLsbD 2, b.getLsbD 1] [b.getLsbD 0] hws
  have hseven : us.length = 7 := by rw [← flipsOf_length d p, hus]; rfl
  have hone : vs.length = 1 := by rw [← flipsOf_length d (us.getLastD p), hvs]; rfl
  obtain ⟨w, rfl⟩ := List.length_eq_one_iff.1 hone
  have hlast : flip d (us.getLastD p) w = b.getLsbD 0 := (List.cons.inj hvs).1
  have hrun := runWindows_bits d us p s hrx hs hp (by rw [hcount, hseven]; decide)
  have hcount7 : (bitsTaken d us p s).rx.bitCount = 7#3 := by
    simp only [bitsTaken, hcount, hseven]
    rfl
  have hbyte : pushBit (bitsTaken d us p s).rx.shift (flip d (us.getLastD p) w) = b := by
    simp only [bitsTaken, hus, hlast]
    exact foldl_pushBit_byteBits s.rx.shift b
  have heighth := rxStep_eighthBit_next_iff d w (us.getLastD p) (bitsTaken d us p s) t hrx (.inl hs) rfl hcount7
  rw [runWindows_append d us [w] s _ hrun]
  refine runWindows_cons d w [] _ t (heighth.2 ?_)
  rw [hbyte]
  simpa only [byteTaken, bitsTaken, Nat.add_assoc, List.length_append, List.length_singleton, List.getLastD_concat]
    using ht

/-! ### The bytes the pipe holds (R136) -/

/-- The pipe has taken these bytes of a frame with so many payload bytes on the wire. -/
structure PipeHolds (raw : Nat) (bytes : List Byte) (s : State) : Prop where
  count : s.pipe.count.toNat = bytes.length
  stored : Memory.readBytes s.mem 0x1000 bytes.length = some bytes
  beforeHeader : bytes.length < 64 →
    s.status.pipeHdrKnown = false ∧ s.pipe.remaining = 0#16 ∧ s.pipe.frameLen = 0#16
  afterHeader : 64 ≤ bytes.length →
    s.status.pipeHdrKnown = true ∧ s.pipe.remaining.toNat + bytes.length = 64 + raw
      ∧ s.pipe.frameLen.toNat = 64 + raw

/-- The pipe has no bytes and no accounts (R135). -/
def PipeFresh (s : State) : Prop :=
  s.status.pipeHdrKnown = false ∧ s.pipe.count = 0#16 ∧ s.pipe.remaining = 0#16 ∧ s.pipe.frameLen = 0#16

theorem pipeHolds_nil (raw : Nat) (s : State) (h : PipeFresh s) : PipeHolds raw [] s := by
  obtain ⟨hknown, hcount, hrem, hlen⟩ := h
  exact ⟨by rw [hcount]; rfl, rfl, fun _ => ⟨hknown, hrem, hlen⟩, fun h64 => absurd h64 (by decide)⟩

/-- The byte after a region that reads makes the region one byte longer. -/
theorem readBytes_write_next (m : Memory) (a : Nat) (bs : List Byte) (b : Byte)
    (h : Memory.readBytes m a bs.length = some bs) :
    Memory.readBytes (Memory.write m (a + bs.length) b) a (bs ++ [b]).length = some (bs ++ [b]) := by
  induction bs generalizing a with
  | nil => simp [Memory.readBytes, read_write_same]
  | cons x bs ih =>
    obtain ⟨y, rest, hy, hrest, heq⟩ := (readBytes_succ_eq_some m a bs.length _).1 h
    obtain ⟨rfl, rfl⟩ := List.cons.inj heq
    have htail := ih (a + 1) hrest
    rw [show a + 1 + rest.length = a + (rest.length + 1) by omega] at htail
    refine (readBytes_succ_eq_some _ _ _ _).2 ⟨y, rest ++ [b], ?_, htail, rfl⟩
    rw [read_write_other _ _ _ _ (by simp), hy]

/-- The header codeword and the rest of a frame whose header is accepted. -/
def AcceptedFrame (frame : List Byte) (raw : Nat) : Prop :=
  frame.length = 64 + raw
    ∧ ∃ hdr hs ch lfsr, hdrCheck (frame.take 64) = .good hdr hs ch lfsr ∧ rawSize hdr.size.toNat = raw

theorem raw_le_of_accepted (frame : List Byte) (raw : Nat) (h : AcceptedFrame frame raw) : raw ≤ 1273 := by
  obtain ⟨-, hdr, hs, ch, lfsr, hgood, rfl⟩ := h
  exact rawSize_le _ (hdrCheck_good_accepts _ _ _ _ _ hgood)

/-- A byte after the header counts down. -/
theorem pipeAdd_countdown (b : Byte) (s : State) (hcount : s.pipe.count.toNat < 4096)
    (hk : s.status.pipeHdrKnown = true) :
    pipeAdd b s
      = .ok (pipeFinish
          { s.pipeStore b with pipe := { (s.pipeStore b).pipe with remaining := s.pipe.remaining - 1#16 } }
          (s.pipe.remaining - 1#16).toNat s.pipe.frameLen.toNat) := by
  have hroom : ¬Config.bufSize ≤ frameRx + s.pipe.count.toNat := by simp only [Config.bufSize, frameRx]; omega
  simp only [pipeAdd, if_neg hroom, hk, if_true]
  rfl

/-- A byte before the 64th is counted. -/
theorem pipeAdd_beforeHeader (b : Byte) (s : State) (hcount : s.pipe.count.toNat < 63)
    (hk : s.status.pipeHdrKnown = false) :
    pipeAdd b s = .ok (pipeFinish (s.pipeStore b) ((Config.hdrRaw : Int) - (s.pipe.count + 1#16).toNat) 0) := by
  have hroom : ¬Config.bufSize ≤ frameRx + s.pipe.count.toNat := by simp only [Config.bufSize, frameRx]; omega
  have hshort : (s.pipeStore b).pipe.count.toNat < Config.hdrRaw := by
    simp only [pipeStore_pipe_count, Config.hdrRaw]
    bv_omega
  simp only [pipeAdd, if_neg hroom, hk, Bool.false_eq_true, if_false, if_pos hshort]
  rfl

/-- The 64th byte of an accepted header starts the countdown. -/
theorem pipeAdd_acceptedHeader (b : Byte) (s : State) (header hs : List Byte) (h : HeaderRegs) (ch : Nat)
    (lfsr : BitVec 9) (hcount : s.pipe.count.toNat = 63) (hk : s.status.pipeHdrKnown = false)
    (hread : Memory.readBytes (s.pipeStore b).mem 0x1000 64 = some header)
    (hgood : hdrCheck header = .good h hs ch lfsr) :
    pipeAdd b s
      = .ok (pipeFinish
          { s.pipeStore b with
            status := { (s.pipeStore b).status with pipeHdrKnown := true }
            pipe :=
              { (s.pipeStore b).pipe with
                remaining := BitVec.ofNat 16 (rawSize h.size.toNat)
                frameLen := BitVec.ofNat 16 (64 + rawSize h.size.toNat) } }
          (rawSize h.size.toNat) ((Config.hdrRaw : Int) + rawSize h.size.toNat)) := by
  have hroom : ¬Config.bufSize ≤ frameRx + s.pipe.count.toNat := by simp only [Config.bufSize, frameRx]; omega
  have hfull : ¬(s.pipeStore b).pipe.count.toNat < Config.hdrRaw := by
    simp only [pipeStore_pipe_count, Config.hdrRaw]
    bv_omega
  have hread' : Memory.readBytes (s.pipeStore b).mem frameRx Config.hdrRaw = some header := hread
  simp only [pipeAdd, if_neg hroom, hk, Bool.false_eq_true, if_false, if_neg hfull, hread', hgood]
  rfl

/-- The frame's next byte is taken. The end of the byte is left to `pipeFinish`. -/
theorem pipeAdd_of_holds (raw : Nat) (us : List Byte) (b : Byte) (rest : List Byte) (s : State)
    (hframe : AcceptedFrame (us ++ b :: rest) raw) (hs : PipeHolds raw us s) :
    ∃ u r f, pipeAdd b s = .ok (pipeFinish u r f) ∧ PipeHolds raw (us ++ [b]) u := by
  have hraw := raw_le_of_accepted _ raw hframe
  obtain ⟨hlen, hdr, hs', ch, lfsr, hgood, rfl⟩ := hframe
  rw [List.length_append, List.length_cons] at hlen
  obtain ⟨hcount, hstored, hbefore, hafter⟩ := hs
  have hsucc : (s.pipe.count + 1#16).toNat = us.length + 1 := by bv_omega
  have hlonger : (us ++ [b]).length = us.length + 1 := List.length_append
  have hnext : Memory.readBytes (s.pipeStore b).mem 0x1000 (us ++ [b]).length = some (us ++ [b]) := by
    rw [pipeStore_mem, hcount]
    exact readBytes_write_next s.mem 0x1000 us b hstored
  rcases Nat.lt_or_ge us.length 64 with hbefore64 | hafter64
  · obtain ⟨hk, hrem, hfl⟩ := hbefore hbefore64
    rcases Nat.lt_or_ge us.length 63 with hshort | hfull
    · refine ⟨_, _, _, pipeAdd_beforeHeader b s (by omega) hk, hsucc.trans hlonger.symm, hnext,
        fun _ => ⟨hk, hrem, hfl⟩, fun h64 => by omega⟩
    · have hus : us.length = 63 := by omega
      have hhead : (us ++ b :: rest).take 64 = us ++ [b] := by
        rw [List.append_cons, List.take_left' (by rw [hlonger, hus])]
      rw [hhead] at hgood
      rw [hlonger, hus] at hnext
      refine ⟨_, _, _, pipeAdd_acceptedHeader b s _ hs' hdr ch lfsr (by omega) hk hnext hgood,
        hsucc.trans hlonger.symm, by rwa [hlonger, hus], fun h64 => by omega, fun _ => ⟨rfl, ?_, ?_⟩⟩
      · simp only [BitVec.toNat_ofNat]
        omega
      · simp only [BitVec.toNat_ofNat]
        omega
  · obtain ⟨hk, hrem, hfl⟩ := hafter hafter64
    refine ⟨_, _, _, pipeAdd_countdown b s (by omega) hk, hsucc.trans hlonger.symm, hnext, fun h64 => by omega,
      fun _ => ⟨hk, ?_, hfl⟩⟩
    change (s.pipe.remaining - 1#16).toNat + (us ++ [b]).length = 64 + rawSize hdr.size.toNat
    bv_omega

/-- The end of a byte inside the frame leaves the pipe open. -/
theorem pipeFinish_of_holds_open (raw : Nat) (bytes : List Byte) (u : State) (r f : Int) (h : PipeHolds raw bytes u)
    (hlen : bytes.length < 64 + raw) :
    (pipeFinish u r f).done = false ∧ PipeHolds raw bytes (pipeFinish u r f).state := by
  have hopen : (u.status.pipeHdrKnown && u.pipe.remaining == 0#16) = false := by
    rcases Nat.lt_or_ge bytes.length 64 with hbefore | hafter
    · rw [(h.beforeHeader hbefore).1]
      rfl
    · obtain ⟨hk, hrem, -⟩ := h.afterHeader hafter
      have hne : u.pipe.remaining ≠ 0#16 := by bv_omega
      rw [hk, beq_false_of_ne hne]
      rfl
  refine ⟨by rw [pipeFinish_done, hopen], ?_⟩
  rw [pipeFinish_state_of_open u r f hopen]
  exact ⟨h.count, h.stored, h.beforeHeader, h.afterHeader⟩

/-- The end of the frame's last byte completes it. -/
theorem pipeFinish_of_holds_last (raw : Nat) (bytes : List Byte) (u : State) (r f : Int) (h : PipeHolds raw bytes u)
    (hlen : bytes.length = 64 + raw) :
    (pipeFinish u r f).done = true ∧ (pipeFinish u r f).frameLen = 64 + raw := by
  obtain ⟨hk, hrem, hfl⟩ := h.afterHeader (by omega)
  have hzero : u.pipe.remaining = 0#16 := by bv_omega
  rw [pipeFinish_done, pipeFinish_frameLen, hk, hzero, hfl]
  exact ⟨rfl, rfl⟩

/-! ### A frame that arrives unchanged (R111) -/

/-- The raw frame of a header and a payload (R104). -/
def frameBytes (h : HeaderRegs) (p : List Byte) : List Byte := frameOf (frameStream (packBytes h) p).1

/-- The header announces the payload, and the payload is one the block carries (R87). -/
def Announces (h : HeaderRegs) (p : List Byte) : Prop :=
  h.size.toNat = p.length ∧ p.length ≤ 1023 ∧ overlong p.length = false

theorem frameBytes_length (h : HeaderRegs) (p : List Byte) : (frameBytes h p).length = 64 + rawSize p.length :=
  frameOf_length _ _ (frameStream_length h p)

theorem frameBytes_take (h : HeaderRegs) (p : List Byte) :
    (frameBytes h p).take 64 = hdrEnc ((frameStream (packBytes h) p).1.take 32) :=
  frameOf_take _ _ (frameStream_length h p)

theorem frameBytes_drop (h : HeaderRegs) (p : List Byte) :
    (frameBytes h p).drop 64 = payEnc ((frameStream (packBytes h) p).1.drop 32) :=
  frameOf_drop _ _ (frameStream_length h p)

/-- The header codeword as sent is accepted with no correction. -/
theorem hdrCheck_frameBytes (h : HeaderRegs) (p : List Byte) (ha : Announces h p) :
    hdrCheck ((frameBytes h p).take 64)
      = .good h ((frameStream (packBytes h) p).1.take 32) 0
          (descramble ((frameStream (packBytes h) p).1.take 32)).2 := by
  obtain ⟨hsize, hmax, hover⟩ := ha
  have hgood := hdrCheck_of_near h p ((frameBytes h p).take 64) (by rw [List.length_take, frameBytes_length]; omega)
    (by rw [hsize]; exact sizeRefused_eq_false _ hmax hover) (by rw [frameBytes_take, dist_self]; omega)
  rwa [frameBytes_take, dist_self, ← frameBytes_take] at hgood

theorem acceptedFrame_frameBytes (h : HeaderRegs) (p : List Byte) (ha : Announces h p) :
    AcceptedFrame (frameBytes h p) (rawSize p.length) :=
  ⟨frameBytes_length h p, h, _, 0, _, hdrCheck_frameBytes h p ha, by rw [ha.1]⟩

/-- The frame decode of a frame as sent gives back the header and the payload. -/
theorem decodeFrameAt_frameBytes (src n dst : Nat) (s : State) (h : HeaderRegs) (p : List Byte) (ha : Announces h p)
    (hn : 64 + rawSize p.length ≤ n) (hdst : dst + p.length ≤ 8192)
    (hread : Memory.readBytes s.mem src (64 + rawSize p.length) = some (frameBytes h p)) :
    decodeFrameAt src n dst s
      = .ok (.ok, { s with
          mem := Memory.writeBytes s.mem dst p
          rxh := h
          part := partRegsOf p.length
          codec := { s.codec with blockFail := 0#32, corrHdr := 0#8, corrPay := 0#16 }
          status := { s.status with payloadOk := true }
          lfsrRx := (descramble (frameStream (packBytes h) p).1).2 }) := by
  have hgood := hdrCheck_frameBytes h p ha
  obtain ⟨hsize, hmax, hover⟩ := ha
  obtain ⟨hhead, hwire⟩ := readBytes_split s.mem src 64 (rawSize p.length) (frameBytes h p) hread
  rw [frameBytes_drop] at hwire
  have hdec := payDec_of_near _ _ p.length s.draws (frameStream_drop_length h p) hover (readBytes_length _ _ _ _ hwire)
    (by simp)
  rw [dist_self] at hdec
  rw [← hsize] at hn hdst hwire
  rw [decodeFrameAt_good src n dst s _ _ h _ 0 _ hhead hgood hn hdst hwire, hsize, hdec]
  simp only [State.setFrameResult, State.setPayResult, hsize, List.take_append_drop, descramble_frameStream,
    Config.hdrLen, List.take_left' (packBytes_length h), List.drop_left' (packBytes_length h), List.take_length,
    unpack_packBytes]

/-- The result of a frame that has arrived: FRAME_READY, the header, the partition, and the payload at PAY_RX. -/
def FrameDelivered (h : HeaderRegs) (p : List Byte) (t : State) : Prop :=
  t.event.getLsbD 2 = true ∧ t.rxh = h ∧ t.part = partRegsOf p.length ∧ t.status.payloadOk = true
    ∧ t.codec.blockFail = 0#32 ∧ t.codec.corrHdr = 0#8 ∧ t.codec.corrPay = 0#16
    ∧ Memory.readBytes t.mem 0x0400 p.length = some p

/-- The work of a completed frame that is in FRAME_RX as it was sent (R139). -/
theorem frameDone_frameBytes (s : State) (h : HeaderRegs) (p : List Byte) (ha : Announces h p)
    (hread : Memory.readBytes s.mem 0x1000 (64 + rawSize p.length) = some (frameBytes h p)) :
    ∃ t, frameDone (64 + rawSize p.length) s = .ok t ∧ FrameDelivered h p t := by
  have hroom : payRx + p.length ≤ 8192 := by
    obtain ⟨-, hmax, -⟩ := ha
    simp only [payRx]
    omega
  have hdecode := decodeFrameAt_frameBytes frameRx (64 + rawSize p.length) payRx
    (if s.event &&& Ev.frameReady ≠ 0#11 then s.emit Ev.rxOverrun else s) h p ha (Nat.le_refl _) hroom
    (by split <;> exact hread)
  refine ⟨_, by rw [frameDone]; simp only [hdecode]; rfl, ?_, rfl, rfl, rfl, rfl, rfl, rfl,
    readBytes_writeBytes_same _ _ _⟩
  simp [Ev.frameReady]

/-! ### The receiver on a frame's windows (R133, R134, R139) -/

/-- The receiver is between two bytes of a frame, and the pipe holds the ones before. -/
def TakingFrame (raw : Nat) (us : List Byte) (p : Window) (s : State) : Prop :=
  s.rxEn = true ∧ s.rx.state = .rxData ∧ s.rx.bitCount = 0#3 ∧ s.prev = some p ∧ PipeHolds raw us s

/-- A byte inside the frame. -/
theorem runWindows_byte_inside (d : Dsp) (raw : Nat) (us : List Byte) (b : Byte) (rest : List Byte) (p : Window)
    (ws : List Window) (s : State) (hframe : AcceptedFrame (us ++ b :: rest) raw) (hrest : rest ≠ [])
    (hs : TakingFrame raw us p s) (hws : flipsOf d p ws = byteBits b) :
    ∃ t, runWindows d ws s = .next t ∧ TakingFrame raw (us ++ [b]) (ws.getLastD p) t := by
  obtain ⟨hrx, hstate, hcount, hp, hholds⟩ := hs
  obtain ⟨u, r, f, hadd, hu⟩ := pipeAdd_of_holds raw us b rest (byteTaken ws p s) hframe
    ⟨hholds.count, hholds.stored, hholds.beforeHeader, hholds.afterHeader⟩
  have hlen : (us ++ [b]).length < 64 + raw := by
    have hpos := List.length_pos_of_ne_nil hrest
    rw [← hframe.1]
    simp only [List.length_append, List.length_cons, List.length_nil]
    omega
  obtain ⟨hopen, hout⟩ := pipeFinish_of_holds_open raw _ u r f hu hlen
  have hbyte := (rxByte_ok_iff b _ _).2 ⟨_, hadd, .inr (.inr ⟨by rw [pipeFinish_failed]; rfl, hopen, rfl⟩)⟩
  have hrun := runWindows_byte d ws p b s _ hrx hstate hcount hp hws hbyte
  obtain ⟨⟨-, -, hrxEn, -, -, -, hprev, -⟩, -⟩ := effect_control _ _ _ (effect_pipeAdd b _ _ hadd)
  have hregs := pipeAdd_rx b _ _ hadd
  exact ⟨_, hrun, hrxEn.trans hrx, by rw [hregs]; rfl, by rw [hregs]; rfl, hprev, hout⟩

/-- The last byte of a frame. -/
theorem runWindows_byte_last (d : Dsp) (h : HeaderRegs) (payload us : List Byte) (b : Byte) (p : Window)
    (ws : List Window) (s : State) (ha : Announces h payload) (hframe : frameBytes h payload = us ++ [b])
    (hs : TakingFrame (rawSize payload.length) us p s) (hws : flipsOf d p ws = byteBits b) :
    ∃ t, runWindows d ws s = .next t ∧ t.rx.state = .idle ∧ FrameDelivered h payload t := by
  obtain ⟨hrx, hstate, hcount, hp, hholds⟩ := hs
  have haccepted := acceptedFrame_frameBytes h payload ha
  rw [hframe] at haccepted
  obtain ⟨u, r, f, hadd, hu⟩ := pipeAdd_of_holds _ us b [] (byteTaken ws p s) haccepted
    ⟨hholds.count, hholds.stored, hholds.beforeHeader, hholds.afterHeader⟩
  obtain ⟨hdone, hframeLen⟩ := pipeFinish_of_holds_last _ _ u r f hu haccepted.1
  have hread : Memory.readBytes (pipeFinish u r f).state.mem 0x1000 (64 + rawSize payload.length)
      = some (frameBytes h payload) := by
    rw [pipeFinish_state_mem, ← haccepted.1, hframe]
    exact hu.stored
  obtain ⟨t, ht, hdelivered⟩ := frameDone_frameBytes _ h payload ha hread
  rw [← hframeLen] at ht
  have hbyte := (rxByte_ok_iff b _ _).2
    ⟨_, hadd, .inr (.inl ⟨by rw [pipeFinish_failed]; rfl, hdone, t, ht, rfl⟩)⟩
  exact ⟨_, runWindows_byte d ws p b s _ hrx hstate hcount hp hws hbyte, rfl, hdelivered⟩

/-- The rest of a frame, byte by byte. -/
theorem runWindows_rest (d : Dsp) (h : HeaderRegs) (payload rest us : List Byte) (p : Window) (ws : List Window)
    (s : State) (ha : Announces h payload) (hframe : frameBytes h payload = us ++ rest) (hrest : rest ≠ [])
    (hs : TakingFrame (rawSize payload.length) us p s) (hws : flipsOf d p ws = bits rest) :
    ∃ t, runWindows d ws s = .next t ∧ t.rx.state = .idle ∧ FrameDelivered h payload t := by
  induction rest generalizing us p ws s with
  | nil => exact absurd rfl hrest
  | cons b rest ih =>
    obtain ⟨w1, w2, rfl, hw1, hw2⟩ := flipsOf_eq_append d p ws (byteBits b) (bits rest) hws
    by_cases hlast : rest = []
    · subst hlast
      obtain rfl : w2 = [] := List.length_eq_zero_iff.1 (by rw [← flipsOf_length d (w1.getLastD p), hw2]; rfl)
      rw [List.append_nil]
      exact runWindows_byte_last d h payload us b p w1 s ha hframe hs hw1
    · have haccepted := acceptedFrame_frameBytes h payload ha
      rw [hframe] at haccepted
      obtain ⟨s', hrun, hs'⟩ := runWindows_byte_inside d _ us b rest p w1 s haccepted hlast hs hw1
      rw [runWindows_append d w1 w2 s s' hrun]
      exact ih (us ++ [b]) _ w2 s' (by rw [hframe, List.append_cons]) hlast hs' hw2

/-- The first data window takes the receiver to RX_DATA, so a frame may start either way. -/
theorem runWindows_of_inData (d : Dsp) (ws : List Window) (p : Window) (s t : State) (hrx : s.rxEn = true)
    (hs : InData s) (hp : s.prev = some p) (hws : ws ≠ [])
    (h : runWindows d ws { s with rx := { s.rx with state := .rxData } } = .next t) : runWindows d ws s = .next t := by
  cases ws with
  | nil => exact absurd rfl hws
  | cons w ws =>
    obtain ⟨u, hw, hrest⟩ := (runWindows_cons_next_iff d w ws _ t).1 h
    refine (runWindows_cons_next_iff d w ws s t).2 ⟨u, ?_, hrest⟩
    exact (rxStep_data_next_iff d w p s u hrx hs hp).2
      ((rxStep_data_next_iff d w p { s with rx := { s.rx with state := .rxData } } u hrx (.inl rfl) hp).1 hw)

/-- A frame sent from the first data window on arrives (R139). -/
theorem runWindows_frame (d : Dsp) (h : HeaderRegs) (payload : List Byte) (p : Window) (ws : List Window) (s : State)
    (ha : Announces h payload) (hrx : s.rxEn = true) (hp : s.prev = some p) (hs : InData s)
    (hcount : s.rx.bitCount = 0#3) (hfresh : PipeFresh s) (hws : flipsOf d p ws = bits (frameBytes h payload)) :
    ∃ t, runWindows d ws s = .next t ∧ t.rx.state = .idle ∧ FrameDelivered h payload t := by
  have hlen := frameBytes_length h payload
  have hne : frameBytes h payload ≠ [] := by
    intro hnil
    rw [hnil, List.length_nil] at hlen
    omega
  have hwsne : ws ≠ [] := by
    rintro rfl
    have hbits := congrArg List.length hws
    rw [flipsOf_length, bits_length, hlen, List.length_nil] at hbits
    omega
  obtain ⟨t, hrun, hresult⟩ := runWindows_rest d h payload (frameBytes h payload) [] p ws
    { s with rx := { s.rx with state := .rxData } } ha (List.nil_append _).symm hne
    ⟨hrx, rfl, hcount, hp, pipeHolds_nil _ _ hfresh⟩ hws
  exact ⟨t, runWindows_of_inData d ws p s t hrx hs hp hwsne hrun, hresult⟩

end Sys2Proof.Machine
end

section
/-! SUPPORT. A frame from the carrier search on: the pilot, the Barker sequence, the separator and the frame's bits
(spec/45_detector.md R121 to R129). -/

namespace Sys2Proof.Machine

/-! ### The pilot (R121) -/

/-- The state in which the pilot has locked the carrier. -/
def pilotTaken (pilot : List Window) (win : BitVec 32) (coh : BitVec 16) (s : State) : State :=
  { s with
    rxPos := s.rxPos + pilot.length
    rx := { s.rx with winCount := win, cohCount := coh, state := .carrierLocked }
    event := s.event ||| Ev.carrierLock }

/-- Coherent windows that bring COH_COUNT to the threshold within the budget lock the carrier with the last of them. -/
theorem runWindows_pilot (d : Dsp) (pilot : List Window) (s : State) (hrx : s.rxEn = true) (hs : InSearch s)
    (hne : pilot ≠ []) (hcoh : s.rx.cohCount.toNat + pilot.length = max s.cfg.carrierThreshold.toNat 1)
    (hbudget : pilot.length = 1 ∨ s.rx.winCount.toNat + pilot.length ≤ s.cfg.maxOffset.toNat)
    (hpilot : ∀ w ∈ pilot, s.cfg.cohThresh.toNat < (d.coh w).val) :
    ∃ win coh, runWindows d pilot s = .next (pilotTaken pilot win coh s) := by
  induction pilot generalizing s with
  | nil => exact absurd rfl hne
  | cons w pilot ih =>
    obtain ⟨hw, hpilot⟩ := List.forall_mem_cons.1 hpilot
    rw [List.length_cons] at hcoh hbudget
    have hthreshold := s.cfg.carrierThreshold.isLt
    have hup : (cohAfter d w s).toNat = s.rx.cohCount.toNat + 1 := by
      rw [cohAfter_of_coherent d w s hw, satSucc_toNat_of_lt _ (BitVec.allOnes 16)]
      rw [BitVec.toNat_allOnes]
      omega
    by_cases hlast : pilot = []
    · subst hlast
      rw [List.length_nil] at hcoh
      exact ⟨_, _, runWindows_cons d w [] s _ (rxStep_search_lock d w s hrx hs (by omega))⟩
    · have hpos := List.length_pos_of_ne_nil hlast
      have hwin : (satSucc s.rx.winCount).toNat = s.rx.winCount.toNat + 1 :=
        satSucc_toNat_of_lt _ s.cfg.maxOffset (by omega)
      have hstate : stateAfter d w s = .coherenceAccumulating := if_pos hw
      obtain ⟨win, coh, hrun⟩ := ih (searchOn d w s) hrx (.inr hstate) hlast
        (by simp only [searchOn, hup]; omega) (by simp only [searchOn, hwin]; omega) hpilot
      refine ⟨win, coh, (runWindows_cons d w pilot s _ ?_).trans (hrun.trans ?_)⟩
      · exact rxStep_search_continue d w s hrx hs (by omega) (by omega)
      · simp only [pilotTaken, searchOn, List.length_cons, Nat.add_assoc, Nat.add_comm 1]

/-! ### The Barker sequence (R123, R127) -/

theorem runBarker_length (retest : Bool) (k : Nat) (l : List Bool) : (runBarker retest k l).length = l.length := by
  induction l generalizing k with
  | nil => rfl
  | cons b l ih => simp only [runBarker, List.length_cons, ih]

/-- Inputs 0 before the sequence leave the machine at its start. -/
theorem runBarker_zeros_sequence (q : Nat) :
    runBarker false 0 (List.replicate q false ++ Config.barkerSeq) = List.replicate (q + 12) false ++ [true] := by
  induction q with
  | zero => exact runBarker_sequence false
  | succ q ih =>
    rw [List.replicate_succ, List.cons_append, runBarker, barkerStepWith_other false 0 false (by decide) (by decide),
      Nat.add_right_comm, List.replicate_succ, List.cons_append]
    exact congrArg _ ih

/-- The state in which the last of the windows has completed the pattern. -/
def patternTaken (ws : List Window) (p : Window) (count : BitVec 32) (k : BitVec 5) (s : State) : State :=
  { s with
    rxPos := s.rxPos + ws.length
    prev := some (ws.getLastD p)
    rx :=
      { s.rx with
        barkerCount := count
        barkerState := k
        state := .synchronized
        sepRemaining := s.cfg.sepSymbols }
    status := { s.status with barkerFound := true }
    event := s.event ||| Ev.syncFound }

/-- Windows whose bits complete the pattern with the last of them, within the budget, synchronise the receiver. -/
theorem runWindows_matching (d : Dsp) (ws : List Window) (p : Window) (n : Nat) (s : State) (hrx : s.rxEn = true)
    (hs : s.rx.state = .barkerMatching) (hp : s.prev = some p)
    (hfound : runBarker false s.rx.barkerState.toNat (flipsOf d p ws) = List.replicate n false ++ [true])
    (hbudget : s.rx.barkerCount.toNat + ws.length ≤ s.cfg.barkerMax.toNat) :
    ∃ count k, runWindows d ws s = .next (patternTaken ws p count k s) := by
  induction ws generalizing s p n with
  | nil =>
    have hlen := congrArg List.length hfound
    rw [runBarker_length, flipsOf_length, List.length_append, List.length_singleton, List.length_nil] at hlen
    omega
  | cons w ws ih =>
    have hlen := congrArg List.length hfound
    rw [runBarker_length, flipsOf_length, List.length_append, List.length_replicate, List.length_singleton,
      List.length_cons] at hlen
    rw [List.length_cons] at hbudget
    rw [flipsOf, runBarker] at hfound
    cases n with
    | zero =>
      obtain rfl : ws = [] := List.length_eq_zero_iff.1 (by omega)
      exact ⟨_, _, runWindows_cons d w [] s _ (rxStep_matching_found d w p s hrx hs hp (List.cons.inj hfound).1)⟩
    | succ n =>
      rw [List.replicate_succ, List.cons_append] at hfound
      obtain ⟨hmiss, hrest⟩ := List.cons.inj hfound
      have hcount : (satSucc s.rx.barkerCount).toNat = s.rx.barkerCount.toNat + 1 :=
        satSucc_toNat_of_lt _ s.cfg.barkerMax (by omega)
      rw [← barkerStep_toNat] at hrest
      obtain ⟨count, k, hrun⟩ := ih w n (matchOn d p w s) hrx hs rfl hrest (by simp only [matchOn, hcount]; omega)
      refine ⟨count, k, (runWindows_cons d w ws s _ ?_).trans (hrun.trans ?_)⟩
      · exact rxStep_matching_continue d w p s hrx hs hp hmiss (by omega)
      · simp only [patternTaken, matchOn, List.getLastD_cons, List.length_cons, Nat.add_assoc, Nat.add_comm 1]

/-! ### From the search to the frame's end (R129) -/

/-- The receiver searches, with no byte and no bit of a frame. -/
def SearchingFresh (s : State) : Prop := s.rxEn = true ∧ InSearch s ∧ s.rx.bitCount = 0#3 ∧ PipeFresh s

/-- From the reference window on: the sequence after q windows without a reversal, the separator, and the frame. -/
theorem runWindows_fromReference (d : Dsp) (h : HeaderRegs) (payload : List Byte) (reference : Window)
    (ws : List Window) (q : Nat) (gap : List Bool) (s : State) (ha : Announces h payload) (hrx : s.rxEn = true)
    (hs : s.rx.state = .barkerMatching) (hp : s.prev = some reference) (hstart : s.rx.barkerState = 0#5)
    (hcount0 : s.rx.barkerCount = 0#32) (hcount : s.rx.bitCount = 0#3) (hfresh : PipeFresh s)
    (hq : q + 13 ≤ s.cfg.barkerMax.toNat) (hgap : gap.length = s.cfg.sepSymbols.toNat)
    (hws : flipsOf d reference ws = List.replicate q false ++ Config.barkerSeq ++ gap ++ bits (frameBytes h payload)) :
    ∃ t, runWindows d ws s = .next t ∧ t.rx.state = .idle ∧ FrameDelivered h payload t
      ∧ t.event.getLsbD 8 = true := by
  rw [List.append_assoc] at hws
  obtain ⟨sync, later, rfl, hsync, hlater⟩ := flipsOf_eq_append d reference ws _ _ hws
  obtain ⟨separator, data, rfl, hseparator, hdata⟩ := flipsOf_eq_append d _ later _ _ hlater
  have hsyncLen : sync.length = q + 13 := by
    rw [← flipsOf_length d reference, hsync, List.length_append, List.length_replicate]
    rfl
  have hseparatorLen : separator.length = s.cfg.sepSymbols.toNat := by
    rw [← flipsOf_length d (sync.getLastD reference), hseparator, hgap]
  obtain ⟨count, k, hmatch⟩ := runWindows_matching d sync reference (q + 12) s hrx hs hp
    (by rw [hsync, hstart]; exact runBarker_zeros_sequence q) (by rw [hsyncLen, hcount0]; simpa using hq)
  have hsep := runWindows_separator d separator (sync.getLastD reference) (patternTaken sync reference count k s) hrx
    rfl rfl hseparatorLen
  obtain ⟨t, hframe, hidle, hdelivered⟩ := runWindows_frame d h payload _ data
    (separatorTaken separator (sync.getLastD reference) (patternTaken sync reference count k s)) ha hrx rfl
    (.inr ⟨rfl, rfl⟩) hcount hfresh hdata
  refine ⟨t, ?_, hidle, hdelivered, ?_⟩
  · rw [runWindows_append d sync _ _ _ hmatch, runWindows_append d separator data _ _ hsep, hframe]
  · refine runWindows_event d data _ t 8 ?_ hframe
    simp [separatorTaken, patternTaken, Ev.syncFound]

/-- A search window locks the carrier, or leaves the receiver in the search with no part of a frame. -/
theorem rxStep_searchingFresh (d : Dsp) (w : Window) (s : State) (hs : SearchingFresh s) :
    ∃ t, rxStep d w false s = .next t
      ∧ (t.rx.state = .carrierLocked ∧ t.event.getLsbD 7 = true ∨ SearchingFresh t) := by
  obtain ⟨hrx, hs, hcount, hfresh⟩ := hs
  rcases Nat.lt_or_ge (cohAfter d w s).toNat (max s.cfg.carrierThreshold.toNat 1) with hlow | hlock
  · rcases Nat.lt_or_ge (satSucc s.rx.winCount).toNat s.cfg.maxOffset.toNat with hleft | hspent
    · exact ⟨_, rxStep_search_continue d w s hrx hs hlow hleft,
        .inr ⟨hrx, inSearch_searchOn d w s, hcount, hfresh⟩⟩
    · exact ⟨_, rxStep_search_noCarrier d w s hrx hs hlow hspent,
        .inr ⟨hrx, .inl rfl, rfl, rfl, rfl, rfl, rfl⟩⟩
  · refine ⟨_, rxStep_search_lock d w s hrx hs hlock, .inl ⟨rfl, ?_⟩⟩
    simp [Ev.carrierLock]

/-- Earlier windows lock the carrier at some point or leave the receiver in the search. -/
theorem runWindows_searchingFresh (d : Dsp) (ws : List Window) (s : State) (hs : SearchingFresh s) :
    (∃ n ≤ ws.length, ∃ t, runWindows d (ws.take n) s = .next t ∧ t.rx.state = .carrierLocked
        ∧ t.event.getLsbD 7 = true)
      ∨ ∃ t, runWindows d ws s = .next t ∧ SearchingFresh t ∧ t.cfg = s.cfg := by
  induction ws generalizing s with
  | nil => exact .inr ⟨s, rfl, hs, rfl⟩
  | cons w ws ih =>
    obtain ⟨u, hw, hlock | hu⟩ := rxStep_searchingFresh d w s hs
    · exact .inl ⟨1, by simp, u, runWindows_cons d w [] s u hw, hlock⟩
    · obtain ⟨n, hn, t, hrun, hlock⟩ | ⟨t, hrun, ht, hcfg⟩ := ih u hu
      · exact .inl ⟨n + 1, Nat.succ_le_succ hn, t, (runWindows_cons d w _ s u hw).trans hrun, hlock⟩
      · exact .inr ⟨t, (runWindows_cons d w ws s u hw).trans hrun, ht, hcfg.trans (rxStep_cfg d w false s u hw)⟩

/-- Settles O48: the frame's bytes fill the pipe and its work delivers them; before it come the lock, the pattern and
the separator. -/
theorem sentFrameIsReceived : Obligations.SentFrameIsReceived := by
  refine ⟨fun d s reference ws h p hrx hp hs hcount hfresh hsize hmax hover hws => ?fromData,
    fun d s pilot reference ws q gap h p hs hne hcoh hbudget hpilot hq hgap hsize hmax hover hws => ?fromSearch,
    fun d s ws hs => runWindows_searchingFresh d ws s hs⟩
  case fromData => exact runWindows_frame d h p reference ws s ⟨hsize, hmax, hover⟩ hrx hp hs hcount hfresh hws
  case fromSearch =>
    obtain ⟨hrx, hsearch, hcount, hfresh⟩ := hs
    obtain ⟨win, coh, hlock⟩ := runWindows_pilot d pilot s hrx hsearch hne hcoh hbudget hpilot
    have hreference := rxStep_carrierLocked d reference (pilotTaken pilot win coh s) hrx rfl
    obtain ⟨t, hrun, hidle, hdelivered, hfound⟩ := runWindows_fromReference d h p reference ws q gap
      (lockStep d reference { pilotTaken pilot win coh s with rxPos := (pilotTaken pilot win coh s).rxPos + 1 })
      ⟨hsize, hmax, hover⟩ hrx rfl rfl rfl rfl hcount hfresh hq hgap hws
    refine ⟨t, ?_, ⟨hidle, hdelivered⟩, ?_, hfound⟩
    · rw [runWindows_append d pilot _ s _ hlock, runWindows_cons d reference ws _ _ hreference, hrun]
    refine runWindows_event d _ _ t 7 ?_ hrun
    simp [lockStep, pilotTaken, Ev.carrierLock]

end Sys2Proof.Machine
end

section
/-! SUPPORT. What one byte answers from the pipe, one record per case, and the commands PIPE_RESET and PIPE_ADD_BYTE
(spec/46_receiver.md R135 to R137, R140, R141). -/

namespace Sys2Proof.Machine

/-! ### The result pair and the end of a byte (R136, R137) -/

/-- The pair of two counts is their two halves. -/
theorem pipePair_natCast (r f : Nat) : pipePair r f = BitVec.ofNat 16 f ++ BitVec.ofNat 16 r := by
  simp only [pipePair, BitVec.ofInt_natCast]

theorem zero_append_ofNat (r : Nat) (h : r < 2 ^ 16) : 0#16 ++ BitVec.ofNat 16 r = BitVec.ofNat 32 r := by
  refine BitVec.eq_of_toNat_eq ?_
  rw [BitVec.toNat_append, BitVec.toNat_zero, Nat.zero_shiftLeft, Nat.zero_or, BitVec.toNat_ofNat, BitVec.toNat_ofNat]
  omega

/-- Before the header the pair is what is left of its 64 bytes. -/
theorem pipePair_beforeHeader (count : Nat) (h : count ≤ 64) :
    pipePair ((Config.hdrRaw : Int) - count) 0 = BitVec.ofNat 32 (64 - count) := by
  rw [Config.hdrRaw, ← Nat.cast_sub h]
  exact (pipePair_natCast _ 0).trans (zero_append_ofNat _ (by omega))

/-- The state after a pipe byte: the byte stored, and the pipe's registers and flags. -/
def State.afterPipe (s : State) (b : Byte) (pipe : PipeRegs) (known done : Bool) : State :=
  { s with
    mem := Memory.write s.mem (0x1000 + s.pipe.count.toNat) b
    pipe := pipe
    status := { s.status with pipeHdrKnown := known, pipeDone := done } }

/-- The end of a byte that completes the frame. -/
theorem pipeFinish_last (s : State) (r f : Int) (hk : s.status.pipeHdrKnown = true) (hrem : s.pipe.remaining = 0#16) :
    pipeFinish s r f
      = { state :=
            { s with
              pipe := ⟨0#16, 0#16, 0#16, s.pipe.frameLen ++ 0#16⟩
              status := { s.status with pipeHdrKnown := false, pipeDone := true } }
          failed := none
          done := true
          frameLen := s.pipe.frameLen.toNat } := by
  have hpair : pipePair 0 s.pipe.frameLen.toNat = s.pipe.frameLen ++ 0#16 := by
    rw [← Nat.cast_zero, pipePair_natCast, BitVec.ofNat_toNat, BitVec.setWidth_eq]
  simp only [pipeFinish, hk, hrem, beq_self_eq_true, Bool.and_self, if_true, hpair]
  rfl

/-- The end of a byte that does not. -/
theorem pipeFinish_open (s : State) (r f : Int) (h : (s.status.pipeHdrKnown && s.pipe.remaining == 0#16) = false) :
    pipeFinish s r f
      = { state := { s with pipe := { s.pipe with result := pipePair r f } }
          failed := none
          done := false
          frameLen := s.pipe.frameLen.toNat } := by
  rw [pipeFinish, h]
  rfl

/-! ### The cases of one byte (R136) -/

/-- A byte before the 64th is counted. -/
theorem pipeAdd_insideHeader (b : Byte) (s : State) (hk : s.status.pipeHdrKnown = false)
    (hcount : s.pipe.count.toNat < 63) :
    pipeAdd b s
      = .ok
        { state := s.afterPipe b
            { s.pipe with count := s.pipe.count + 1#16, result := BitVec.ofNat 32 (63 - s.pipe.count.toNat) }
            s.status.pipeHdrKnown false
          failed := none
          done := false
          frameLen := s.pipe.frameLen.toNat } := by
  have hsucc : (s.pipe.count + 1#16).toNat = s.pipe.count.toNat + 1 := by bv_omega
  rw [pipeAdd_beforeHeader b s hcount hk, pipeFinish_open _ _ _ (by simp [hk]),
    pipePair_beforeHeader _ (by omega), hsucc, Nat.sub_add_eq, Nat.sub_right_comm]
  rfl

/-- A header that is not accepted has a result code (R141). -/
theorem exists_failCode (header : List Byte) (h : hdrCheck header = .rsBad ∨ hdrCheck header = .sizeBad) :
    ∃ code, (hdrCheck header).failCode = some code := by
  obtain h | h := h
  · exact ⟨.hdrRsFail, by rw [h]; rfl⟩
  · exact ⟨.hdrSizeFail, by rw [h]; rfl⟩

/-- The 64th byte fails the header. -/
theorem pipeAdd_headerFails (b : Byte) (s : State) (header : List Byte) (code : ResultCode)
    (hk : s.status.pipeHdrKnown = false) (hcount : s.pipe.count.toNat = 63)
    (hread : Memory.readBytes (Memory.write s.mem (0x1000 + s.pipe.count.toNat) b) 0x1000 64 = some header)
    (hfail : (hdrCheck header).failCode = some code) :
    pipeAdd b s
      = .ok
        { state := s.afterPipe b ⟨0#16, 0#16, 0#16, 0xFFFFFFFF#32⟩ false false
          failed := some code
          done := false
          frameLen := 0 } := by
  have hroom : ¬Config.bufSize ≤ frameRx + s.pipe.count.toNat := by simp only [Config.bufSize, frameRx]; omega
  have hfull : ¬(s.pipeStore b).pipe.count.toNat < Config.hdrRaw := by
    simp only [pipeStore_pipe_count, Config.hdrRaw]
    bv_omega
  have hread' : Memory.readBytes (s.pipeStore b).mem frameRx Config.hdrRaw = some header := hread
  simp only [pipeAdd, if_neg hroom, hk, Bool.false_eq_true, if_false, if_neg hfull, hread']
  cases hcheck : hdrCheck header with
  | rsBad | sizeBad =>
    rw [hcheck] at hfail
    cases hfail
    rfl
  | good h hs ch lfsr =>
    rw [hcheck] at hfail
    cases hfail

/-- The 64th byte completes an accepted header with a payload to come. -/
theorem pipeAdd_headerKnown (b : Byte) (s : State) (header hs : List Byte) (h : HeaderRegs) (ch : Nat)
    (lfsr : BitVec 9) (hk : s.status.pipeHdrKnown = false) (hcount : s.pipe.count.toNat = 63)
    (hread : Memory.readBytes (Memory.write s.mem (0x1000 + s.pipe.count.toNat) b) 0x1000 64 = some header)
    (hgood : hdrCheck header = .good h hs ch lfsr) (hsize : h.size ≠ 0#16) :
    pipeAdd b s
      = .ok
        { state := s.afterPipe b
            { count := 64#16
              remaining := BitVec.ofNat 16 (rawSize h.size.toNat)
              frameLen := BitVec.ofNat 16 (64 + rawSize h.size.toNat)
              result := BitVec.ofNat 16 (64 + rawSize h.size.toNat) ++ BitVec.ofNat 16 (rawSize h.size.toNat) }
            true false
          failed := none
          done := false
          frameLen := (BitVec.ofNat 16 (64 + rawSize h.size.toNat)).toNat } := by
  have hmax := rawSize_le _ (hdrCheck_good_accepts _ _ _ _ _ hgood)
  have hpos : 0 < h.size.toNat := Nat.pos_of_ne_zero fun h0 => hsize (BitVec.eq_of_toNat_eq h0)
  have hmin : h.size.toNat ≤ rawSize h.size.toNat := Nat.le_add_right ..
  have hmore : BitVec.ofNat 16 (rawSize h.size.toNat) ≠ 0#16 := by
    intro h0
    have := congrArg BitVec.toNat h0
    rw [BitVec.toNat_ofNat, BitVec.toNat_zero] at this
    omega
  have hnext : s.pipe.count + 1#16 = 64#16 := by bv_omega
  have hpair := pipePair_natCast (rawSize h.size.toNat) (64 + rawSize h.size.toNat)
  rw [Nat.cast_add] at hpair
  rw [pipeAdd_acceptedHeader b s header hs h ch lfsr hcount hk hread hgood,
    pipeFinish_open _ _ _ (by simpa using hmore), ← hpair, ← hnext]
  rfl

/-- The 64th byte completes an accepted header without a payload, and so the frame. -/
theorem pipeAdd_headerOnly (b : Byte) (s : State) (header hs : List Byte) (h : HeaderRegs) (ch : Nat)
    (lfsr : BitVec 9) (hk : s.status.pipeHdrKnown = false) (hcount : s.pipe.count.toNat = 63)
    (hread : Memory.readBytes (Memory.write s.mem (0x1000 + s.pipe.count.toNat) b) 0x1000 64 = some header)
    (hgood : hdrCheck header = .good h hs ch lfsr) (hsize : h.size = 0#16) :
    pipeAdd b s
      = .ok
        { state := s.afterPipe b ⟨0#16, 0#16, 0#16, 0x00400000#32⟩ false true
          failed := none
          done := true
          frameLen := 64 } := by
  have hraw : rawSize h.size.toNat = 0 := by rw [hsize]; rfl
  have hpair : 64#16 ++ 0#16 = 0x00400000#32 := by decide
  rw [pipeAdd_acceptedHeader b s header hs h ch lfsr hcount hk hread hgood, hraw, ← hpair]
  exact congrArg _ (pipeFinish_last _ _ _ rfl rfl)

/-- A byte after the header that leaves some to come. -/
theorem pipeAdd_insidePayload (b : Byte) (s : State) (hk : s.status.pipeHdrKnown = true)
    (hcount : s.pipe.count.toNat < 4096) (hrem : 2 ≤ s.pipe.remaining.toNat) :
    pipeAdd b s
      = .ok
        { state := s.afterPipe b
            { s.pipe with
              count := s.pipe.count + 1#16
              remaining := s.pipe.remaining - 1#16
              result := s.pipe.frameLen ++ (s.pipe.remaining - 1#16) }
            s.status.pipeHdrKnown false
          failed := none
          done := false
          frameLen := s.pipe.frameLen.toNat } := by
  have hmore : s.pipe.remaining - 1#16 ≠ 0#16 := by bv_omega
  have hpair := pipePair_natCast (s.pipe.remaining - 1#16).toNat s.pipe.frameLen.toNat
  simp only [BitVec.ofNat_toNat, BitVec.setWidth_eq] at hpair
  rw [pipeAdd_countdown b s hcount hk, pipeFinish_open _ _ _ (by simpa using fun _ => hmore), hpair]
  rfl

/-- The byte that takes the countdown to 0 completes the frame. -/
theorem pipeAdd_lastByte (b : Byte) (s : State) (hk : s.status.pipeHdrKnown = true)
    (hcount : s.pipe.count.toNat < 4096) (hrem : s.pipe.remaining = 1#16) :
    pipeAdd b s
      = .ok
        { state := s.afterPipe b ⟨0#16, 0#16, 0#16, s.pipe.frameLen ++ 0#16⟩ false true
          failed := none
          done := true
          frameLen := s.pipe.frameLen.toNat } := by
  have hzero : s.pipe.remaining - 1#16 = 0#16 := by rw [hrem]; rfl
  rw [pipeAdd_countdown b s hcount hk]
  exact congrArg _ (pipeFinish_last _ _ _ hk hzero)

/-! ### PIPE_RESET and PIPE_ADD_BYTE (R140, R141) -/

theorem exec_pipeReset (s : State) : exec .pipeReset s = execPipeReset s := rfl

theorem exec_pipeAddByte (b : Byte) (s : State) : exec (.pipeAddByte b) s = execPipeAddByte b s := rfl

theorem hazardCheck_of_enabled (s : State) (h : s.rxEn = true) : hazardCheck s = (true, .eHazard) := by
  rw [hazardCheck, h]

/-- Settles O18: the hazard check is the command's only one, and its work resets the pipe. -/
theorem pipeResetClearsPipe : Obligations.PipeResetClearsPipe := by
  refine fun s => ⟨fun hrx => ?reset, fun hrx => ?hazard⟩
  case reset =>
    rw [exec_pipeReset, execPipeReset, hazardCheck_of_disabled s hrx]
    exact runCommand_executed _ _ _ s _ .ok rfl rfl
  case hazard =>
    rw [exec_pipeReset, execPipeReset, hazardCheck_of_enabled s hrx]
    exact runCommand_contract _ _ _ s .eHazard rfl rfl

/-- PIPE_ADD_BYTE on a byte that fails no header returns OK. -/
theorem exec_pipeAddByte_ok (b : Byte) (s : State) (out : PipeOut) (hrx : s.rxEn = false)
    (hadd : pipeAdd b s = .ok out) (hok : out.failed = none) :
    exec (.pipeAddByte b) s = .next (okDone 0x51#8 out.state) := by
  rw [exec_pipeAddByte, execPipeAddByte, hazardCheck_of_disabled s hrx]
  refine runCommand_executed _ _ _ s _ .ok rfl ?_
  simp only [hadd, hok, Option.getD_none]

/-- PIPE_ADD_BYTE on the byte that fails the header returns the failure's code and keeps the pipe's writes. -/
theorem exec_pipeAddByte_failed (b : Byte) (s : State) (out : PipeOut) (code : ResultCode) (hrx : s.rxEn = false)
    (hadd : pipeAdd b s = .ok out) (hfailed : out.failed = some code) (hclass : code.isContract = false)
    (hne : code ≠ .ok) : exec (.pipeAddByte b) s = .next (channelDone 0x51#8 code.value out.state) := by
  rw [exec_pipeAddByte, execPipeAddByte, hazardCheck_of_disabled s hrx]
  refine runCommand_channel _ _ _ s _ code rfl ?_ hclass hne
  simp only [hadd, hfailed, Option.getD_some]

/-- Settles O19: the command completes from what the pipe answers in each case. -/
theorem pipeAddByteAssembles : Obligations.PipeAddByteAssembles := by
  refine ⟨fun s b hrx => ?hazard, fun s b hrx => ⟨fun hk hcount => ?counted, fun header hk hcount hread =>
    ⟨fun h hs ch lfsr hgood => ⟨fun hsize => ?headerKnown, fun hsize => ?headerOnly⟩, fun code hbad => ?failed⟩,
    fun hk hcount hrem => ?countsDown, fun hk hcount hrem => ?lastByte⟩⟩
  case hazard =>
    rw [exec_pipeAddByte, execPipeAddByte, hazardCheck_of_enabled s hrx]
    exact runCommand_contract _ _ _ s .eHazard rfl rfl
  case counted => exact exec_pipeAddByte_ok b s _ hrx (pipeAdd_insideHeader b s hk hcount) rfl
  case headerKnown =>
    exact exec_pipeAddByte_ok b s _ hrx (pipeAdd_headerKnown b s header hs h ch lfsr hk hcount hread hgood hsize) rfl
  case headerOnly =>
    exact exec_pipeAddByte_ok b s _ hrx (pipeAdd_headerOnly b s header hs h ch lfsr hk hcount hread hgood hsize) rfl
  case failed =>
    obtain ⟨hbad, rfl⟩ | ⟨hbad, rfl⟩ := hbad
    · exact exec_pipeAddByte_failed b s _ .hdrRsFail hrx
        (pipeAdd_headerFails b s header .hdrRsFail hk hcount hread (by rw [hbad]; rfl)) rfl rfl nofun
    · exact exec_pipeAddByte_failed b s _ .hdrSizeFail hrx
        (pipeAdd_headerFails b s header .hdrSizeFail hk hcount hread (by rw [hbad]; rfl)) rfl rfl nofun
  case countsDown => exact exec_pipeAddByte_ok b s _ hrx (pipeAdd_insidePayload b s hk hcount hrem) rfl
  case lastByte => exact exec_pipeAddByte_ok b s _ hrx (pipeAdd_lastByte b s hk hcount hrem) rfl

end Sys2Proof.Machine
end

section
/-! SUPPORT. A whole frame fed to the pipe: what every byte reports, the countdown to the last byte, and a header that
fails (spec/46_receiver.md R138). -/

namespace Sys2Proof.Machine

/-! ### What PIPE_RESULT and the flags say after a byte (R136, R137) -/

/-- The end of a byte, for a state that differs from `s` in STATUS by the pipe's two flags, PIPE_DONE cleared. -/
theorem pipeFinish_status (s u : State) (r f : Int)
    (h : u.status = { s.status with pipeHdrKnown := u.status.pipeHdrKnown, pipeDone := false }) :
    (pipeFinish u r f).state.status
      = { s.status with
          pipeHdrKnown := (pipeFinish u r f).state.status.pipeHdrKnown, pipeDone := (pipeFinish u r f).done } := by
  cases hlast : u.status.pipeHdrKnown && u.pipe.remaining == 0#16 with
  | true =>
    obtain ⟨hk, hrem⟩ := (Bool.and_eq_true _ _).mp hlast
    rw [pipeFinish_last u r f hk (eq_of_beq hrem), h]
  | false =>
    rw [pipeFinish_open u r f hlast]
    exact h

/-- PIPE_DONE says whether the byte completed a frame; of STATUS the pipe writes only its own two flags. -/
theorem pipeAdd_status (b : Byte) (s : State) (out : PipeOut) (hout : pipeAdd b s = .ok out) :
    out.state.status = { s.status with pipeHdrKnown := out.state.status.pipeHdrKnown, pipeDone := out.done } := by
  obtain ⟨-, ⟨-, rfl⟩ | ⟨-, -, rfl⟩ | ⟨-, -, header, -, hheader⟩⟩ := pipeAdd_ok b s out hout
  · exact pipeFinish_status s _ _ _ rfl
  · exact pipeFinish_status s _ _ _ rfl
  · obtain ⟨-, rfl⟩ | ⟨-, rfl⟩ | ⟨hdr, hs, ch, lfsr, -, rfl⟩ := hheader
    · rfl
    · rfl
    · exact pipeFinish_status s _ _ _ rfl

/-- After a byte inside the frame PIPE_RESULT repeats the accounts: the countdown and the length, or before the header
what is left of its 64 bytes. -/
theorem pipeAdd_result_of_open (b : Byte) (s : State) (out : PipeOut) (hout : pipeAdd b s = .ok out)
    (hfailed : out.failed = none) (hopen : out.done = false) :
    out.state.pipe.result
      = if out.state.status.pipeHdrKnown then out.state.pipe.frameLen ++ out.state.pipe.remaining
        else BitVec.ofNat 32 (64 - out.state.pipe.count.toNat) := by
  obtain ⟨-, ⟨hk, rfl⟩ | ⟨hk, hshort, rfl⟩ | ⟨-, -, header, -, hheader⟩⟩ := pipeAdd_ok b s out hout
  case inl =>
    rw [pipeFinish_done] at hopen
    rw [pipeFinish_open _ _ _ hopen, if_pos (by exact hk)]
    simp only [pipePair_natCast, BitVec.ofNat_toNat, BitVec.setWidth_eq, pipeStore_pipe_frameLen]
  case inr.inl =>
    rw [pipeFinish_done] at hopen
    rw [pipeFinish_open _ _ _ hopen, if_neg (by simpa using hk)]
    exact pipePair_beforeHeader _ hshort.le
  case inr.inr =>
    obtain ⟨-, rfl⟩ | ⟨-, rfl⟩ | ⟨hdr, hs, ch, lfsr, -, rfl⟩ := hheader
    · cases hfailed
    · cases hfailed
    · have hpair := pipePair_natCast (rawSize hdr.size.toNat) (64 + rawSize hdr.size.toNat)
      rw [Nat.cast_add] at hpair
      rw [pipeFinish_done] at hopen
      rw [pipeFinish_open _ _ _ hopen]
      exact hpair

/-! ### Runs of bytes (R138) -/

theorem feedPipe_concat (us : List Byte) (b : Byte) (s t : State) (out : PipeOut) (hus : feedPipe us s = .ok t)
    (hb : pipeAdd b t = .ok out) : feedPipe (us ++ [b]) s = .ok out.state := by
  induction us generalizing s with
  | nil =>
    cases hus
    simp only [List.nil_append, feedPipe, hb]
  | cons u us ih =>
    rw [feedPipe] at hus
    rw [List.cons_append, feedPipe]
    split at hus
    · cases hus
    · exact ih _ hus

/-- What holds before the first byte, and of every further byte of the sequence, holds after the last. -/
theorem feedPipe_of_step (holds : List Byte → State → Prop) (s : State) (bytes : List Byte) (hstart : holds [] s)
    (hstep : ∀ us b t, us ++ [b] <+: bytes → holds us t → ∃ out, pipeAdd b t = .ok out ∧ holds (us ++ [b]) out.state) :
    ∃ t, feedPipe bytes s = .ok t ∧ holds bytes t := by
  suffices hprefix : ∀ us, us <+: bytes → ∃ t, feedPipe us s = .ok t ∧ holds us t from hprefix bytes List.prefix_rfl
  intro us
  induction us using List.reverseRecOn with
  | nil => exact fun _ => ⟨s, rfl, hstart⟩
  | append_singleton us b ih =>
    intro hus
    obtain ⟨t, ht, hholds⟩ := ih ((List.prefix_append us [b]).trans hus)
    obtain ⟨out, hout, hnext⟩ := hstep us b t hus hholds
    exact ⟨out.state, feedPipe_concat us b s t out ht hout, hnext⟩

/-- The pipe as it stands after part of a frame fed to it in a state `s`: the bytes, the flags, and the last report. -/
structure FedPart (raw : Nat) (s : State) (bytes : List Byte) (t : State) : Prop where
  holds : PipeHolds raw bytes t
  status : t.status = { s.status with pipeHdrKnown := t.status.pipeHdrKnown, pipeDone := t.status.pipeDone }
  reported : bytes ≠ [] → t.status.pipeDone = false
    ∧ t.pipe.result
      = if bytes.length < 64 then BitVec.ofNat 32 (64 - bytes.length)
        else BitVec.ofNat 16 (64 + raw) ++ BitVec.ofNat 16 (64 + raw - bytes.length)

/-- A byte that fails no header and completes no frame makes the part one byte longer. -/
theorem fedPart_concat (raw : Nat) (s : State) (us : List Byte) (b : Byte) (t : State) (out : PipeOut)
    (ht : FedPart raw s us t) (hout : pipeAdd b t = .ok out) (hfailed : out.failed = none) (hopen : out.done = false)
    (hholds : PipeHolds raw (us ++ [b]) out.state) : FedPart raw s (us ++ [b]) out.state := by
  have hstatus := pipeAdd_status b t out hout
  refine ⟨hholds, ?_, fun _ => ⟨by rw [hstatus, hopen], ?_⟩⟩
  · rw [ht.status] at hstatus
    rw [hstatus]
  · rw [pipeAdd_result_of_open b t out hout hfailed hopen]
    rcases Nat.lt_or_ge (us ++ [b]).length 64 with hbefore | hafter
    · obtain ⟨hk, -, -⟩ := hholds.beforeHeader hbefore
      rw [if_neg (by rw [hk]; nofun), if_pos hbefore, hholds.count]
    · obtain ⟨hk, hrem, hlen⟩ := hholds.afterHeader hafter
      rw [if_pos hk, if_neg (Nat.not_lt.2 hafter), ← hlen,
        show out.state.pipe.frameLen.toNat - (us ++ [b]).length = out.state.pipe.remaining.toNat by omega]
      simp only [BitVec.ofNat_toNat, BitVec.setWidth_eq]

/-- Part of an accepted frame leaves the pipe waiting for the rest. -/
theorem feedPipe_inside (raw : Nat) (us rest : List Byte) (s : State) (hfresh : PipeFresh s)
    (hframe : AcceptedFrame (us ++ rest) raw) (hrest : rest ≠ []) :
    ∃ t, feedPipe us s = .ok t ∧ FedPart raw s us t := by
  refine feedPipe_of_step (FedPart raw s) s us ⟨pipeHolds_nil raw s hfresh, rfl, fun hne => absurd rfl hne⟩
    fun vs b t hvs ht => ?_
  obtain ⟨more, rfl⟩ := hvs
  rw [List.append_assoc, List.append_assoc, List.singleton_append] at hframe
  obtain ⟨u, r, f, hadd, hu⟩ := pipeAdd_of_holds raw vs b (more ++ rest) t hframe ht.holds
  have hshort : (vs ++ [b]).length < 64 + raw := by
    have hpos := List.length_pos_of_ne_nil hrest
    rw [← hframe.1]
    simp only [List.length_append, List.length_cons, List.length_nil]
    omega
  obtain ⟨hopen, hholds⟩ := pipeFinish_of_holds_open raw _ u r f hu hshort
  exact ⟨_, hadd, fedPart_concat raw s vs b t _ ht hadd (pipeFinish_failed u r f) hopen hholds⟩

/-- The whole frame completes. -/
theorem feedPipe_whole (raw : Nat) (frame : List Byte) (s : State) (hfresh : PipeFresh s)
    (hframe : AcceptedFrame frame raw) :
    ∃ t, feedPipe frame s = .ok t ∧ t.pipe = ⟨0#16, 0#16, 0#16, BitVec.ofNat 16 (64 + raw) ++ 0#16⟩
      ∧ t.status = { s.status with pipeHdrKnown := false, pipeDone := true }
      ∧ Memory.readBytes t.mem 0x1000 frame.length = some frame := by
  obtain rfl | ⟨us, b, rfl⟩ := List.eq_nil_or_concat' frame
  · have hlen := hframe.1
    rw [List.length_nil] at hlen
    omega
  obtain ⟨t, ht, hpart⟩ := feedPipe_inside raw us [b] s hfresh hframe (List.cons_ne_nil _ _)
  obtain ⟨u, r, f, hadd, hu⟩ := pipeAdd_of_holds raw us b [] t hframe hpart.holds
  obtain ⟨hk, hrem, hlen⟩ := hu.afterHeader (by rw [hframe.1]; omega)
  have hzero : u.pipe.remaining = 0#16 := by
    have hall := hframe.1
    bv_omega
  have hstatus := pipeAdd_status b t _ hadd
  rw [hpart.status] at hstatus
  refine ⟨_, feedPipe_concat us b s t _ ht hadd, ?_, ?_, ?_⟩
  · rw [pipeFinish_last u r f hk hzero, ← hlen, BitVec.ofNat_toNat, BitVec.setWidth_eq]
  · rw [hstatus, pipeFinish_last u r f hk hzero]
  · rw [pipeFinish_state_mem]
    exact hu.stored

/-- Up to 63 bytes are only counted, whatever they are. -/
theorem feedPipe_beforeHeader (us : List Byte) (s : State) (hfresh : PipeFresh s) (hlen : us.length < 64) :
    ∃ t, feedPipe us s = .ok t ∧ PipeHolds 0 us t := by
  refine feedPipe_of_step (PipeHolds 0) s us (pipeHolds_nil 0 s hfresh) fun vs b t hvs ht => ?_
  have hlonger : (vs ++ [b]).length = vs.length + 1 := List.length_append
  have hshort : vs.length + 1 < 64 := (hlonger.symm.trans_le hvs.length_le).trans_lt hlen
  have hcount := ht.count
  obtain ⟨hk, hrem, hfl⟩ := ht.beforeHeader (by omega)
  refine ⟨_, pipeAdd_insideHeader b t hk (by omega), ?_, ?_, fun _ => ⟨hk, hrem, hfl⟩, fun h64 => by omega⟩
  · change (t.pipe.count + 1#16).toNat = (vs ++ [b]).length
    bv_omega
  · change Memory.readBytes (Memory.write t.mem (0x1000 + t.pipe.count.toNat) b) _ _ = _
    rw [hcount]
    exact readBytes_write_next t.mem 0x1000 vs b ht.stored

/-- The 64 bytes of a header that fails leave the pipe empty. -/
theorem feedPipe_headerFails (header : List Byte) (code : ResultCode) (s : State) (hfresh : PipeFresh s)
    (hlen : header.length = 64) (hfail : (hdrCheck header).failCode = some code) :
    ∃ t, feedPipe header s = .ok t ∧ t.pipe = ⟨0#16, 0#16, 0#16, 0xFFFFFFFF#32⟩ ∧ t.status.pipeHdrKnown = false := by
  obtain rfl | ⟨us, b, rfl⟩ := List.eq_nil_or_concat' header
  · cases hlen
  have hus : us.length = 63 := by simpa using hlen
  obtain ⟨t, ht, hholds⟩ := feedPipe_beforeHeader us s hfresh (by omega)
  obtain ⟨hk, -, -⟩ := hholds.beforeHeader (by omega)
  have hread := readBytes_write_next t.mem 0x1000 us b hholds.stored
  rw [hlen, ← hholds.count] at hread
  exact ⟨_, feedPipe_concat us b s t _ ht
    (pipeAdd_headerFails b t _ code hk (hholds.count.trans hus) hread hfail), rfl, rfl⟩

/-- Settles O47: the bytes of an accepted frame count down to its end, and a failed header empties the pipe. -/
theorem pipeAssemblesWholeFrames : Obligations.PipeAssemblesWholeFrames := by
  intro s frame hk hcount hrem hlen hmin
  have hfresh : PipeFresh s := ⟨hk, hcount, hrem, hlen⟩
  refine ⟨fun h hs ch lfsr hgood hlength => ?accepted, fun hbad => ?failed⟩
  case accepted =>
    have hframe : AcceptedFrame frame (rawSize h.size.toNat) := ⟨hlength, h, hs, ch, lfsr, hgood, rfl⟩
    refine ⟨fun j hpos hj => ?_, ?_⟩
    · have hlenj : (frame.take j).length = j := List.length_take_of_le hj.le
      obtain ⟨t, ht, hpart⟩ := feedPipe_inside _ (frame.take j) (frame.drop j) s hfresh
        (by rwa [List.take_append_drop]) (by rwa [Ne, List.drop_eq_nil_iff, Nat.not_le])
      have hreport := hpart.reported (List.ne_nil_of_length_pos (by omega))
      rw [hlenj, ← hlength] at hreport
      exact ⟨t, ht, hreport⟩
    · have hwhole := feedPipe_whole _ frame s hfresh hframe
      rwa [← hlength] at hwhole
  case failed =>
    obtain ⟨code, hfail⟩ := exists_failCode _ hbad
    exact feedPipe_headerFails _ code s hfresh (List.length_take_of_le hmin) hfail

end Sys2Proof.Machine
end

section
/-! SUPPORT. The eighth bit of a byte in RX_DATA, for each case of the pipe, and the work of the completed frame
(spec/46_receiver.md R134, R136, R139). -/

namespace Sys2Proof.Machine

/-! ### The byte given to the pipe (R134) -/

/-- The state in which the eighth bit's byte goes to the pipe. -/
def State.byteReady (s : State) (w : Window) : State :=
  { s with rxPos := s.rxPos + 1, prev := some w, rx := { s.rx with shift := 0#8, bitCount := 0#3 } }

theorem rxStep_eighthBit_of_rxData (d : Dsp) (w p : Window) (s t : State) (hrx : s.rxEn = true)
    (hs : s.rx.state = .rxData) (hp : s.prev = some p) (hcount : s.rx.bitCount = 7#3)
    (ht : rxByte (pushBit s.rx.shift (flip d p w)) (s.byteReady w) = .ok t) : rxStep d w false s = .next t := by
  rw [State.byteReady] at ht
  refine (rxStep_eighthBit_next_iff d w p s t hrx (.inl hs) hp hcount).2 ?_
  rwa [← hs]

theorem rxByte_open (b : Byte) (s : State) (out : PipeOut) (hadd : pipeAdd b s = .ok out) (hfailed : out.failed = none)
    (hopen : out.done = false) : rxByte b s = .ok out.state :=
  (rxByte_ok_iff b s _).2 ⟨out, hadd, .inr (.inr ⟨by rw [hfailed]; rfl, hopen, rfl⟩)⟩

theorem rxByte_failed (b : Byte) (s : State) (out : PipeOut) (code : ResultCode) (hadd : pipeAdd b s = .ok out)
    (hfailed : out.failed = some code) : rxByte b s = .ok (out.state.emit Ev.hdrErr).rxReset :=
  (rxByte_ok_iff b s _).2 ⟨out, hadd, .inl ⟨by rw [hfailed]; rfl, rfl⟩⟩

theorem rxByte_done (b : Byte) (s t : State) (out : PipeOut) (hadd : pipeAdd b s = .ok out)
    (hfailed : out.failed = none) (hdone : out.done = true) (ht : frameDone out.frameLen out.state = .ok t) :
    rxByte b s = .ok t.rxReset :=
  (rxByte_ok_iff b s _).2 ⟨out, hadd, .inr (.inl ⟨by rw [hfailed]; rfl, hdone, t, ht, rfl⟩)⟩

/-! ### The work of the completed frame (R139) -/

/-- EVENT once a frame is ready: RX_OVERRUN is set too where FRAME_READY still was. -/
def frameEvents (event : BitVec 11) : BitVec 11 := if event.getLsbD 2 then event ||| 0x204#11 else event ||| 0x004#11

theorem and_frameReady_ne_zero_iff (event : BitVec 11) : event &&& Ev.frameReady ≠ 0#11 ↔ event.getLsbD 2 = true := by
  rw [show Ev.frameReady = BitVec.twoPow 11 2 from rfl, BitVec.and_twoPow]
  cases event.getLsbD 2 with
  | true => exact iff_of_true (by decide) rfl
  | false => exact iff_of_false (fun hne => hne rfl) nofun

/-- The frame at FRAME_RX is decoded to PAY_RX. -/
theorem frameDone_good (n : Nat) (s : State) (header wire hs : List Byte) (h : HeaderRegs) (ch : Nat)
    (lfsr : BitVec 9) (hread : Memory.readBytes s.mem 0x1000 64 = some header)
    (hgood : hdrCheck header = .good h hs ch lfsr) (hlen : 64 + rawSize h.size.toNat ≤ n)
    (hwire : Memory.readBytes s.mem 0x1040 (rawSize h.size.toNat) = some wire) :
    frameDone n s
      = .ok { s.setFrameResult 0x0400 h hs ch (payDec wire h.size.toNat s.draws) with
          event := frameEvents s.event } := by
  have hmax := le_maxPayload_of_accepted _ (hdrCheck_good_accepts _ _ _ _ _ hgood)
  have hdecode (u : State) (hmem : u.mem = s.mem) :
      decodeFrameAt frameRx n payRx u = .ok (.ok, u.setFrameResult 0x0400 h hs ch (payDec wire h.size.toNat u.draws)) :=
    decodeFrameAt_good frameRx n payRx u header wire h hs ch lfsr (by rwa [hmem]) hgood hlen
      (by simp only [payRx]; omega) (by rwa [hmem])
  rw [frameDone]
  by_cases hset : s.event.getLsbD 2 = true
  · simp only [if_pos ((and_frameReady_ne_zero_iff _).2 hset), hdecode (s.emit Ev.rxOverrun) rfl, frameEvents,
      if_pos hset]
    rw [show 0x204#11 = Ev.rxOverrun ||| Ev.frameReady from rfl, ← BitVec.or_assoc]
    rfl
  · simp only [if_neg (mt (and_frameReady_ne_zero_iff _).1 hset), hdecode s rfl, frameEvents, if_neg hset]
    rfl

/-- What the header check accepts is what the codec and the descrambler give (R106). -/
theorem hdrCheck_good_inv (r : List Byte) (h : HeaderRegs) (hs : List Byte) (c : Nat) (lfsr : BitVec 9)
    (hgood : hdrCheck r = .good h hs c lfsr) :
    hdrDec r = .ok hs c ∧ unpack (descramble hs).1 = h ∧ (descramble hs).2 = lfsr := by
  cases hdec : hdrDec r with
  | fail =>
    rw [hdrCheck_of_fail r hdec] at hgood
    cases hgood
  | ok d c' =>
    rw [hdrCheck_of_ok r d c' hdec] at hgood
    split at hgood
    · cases hgood
    · cases hgood
      exact ⟨rfl, rfl, rfl⟩

/-- A frame without a payload gives the result set of its header. -/
theorem frameDone_headerOnly (n : Nat) (s : State) (header hs : List Byte) (h : HeaderRegs) (ch : Nat)
    (lfsr : BitVec 9) (hread : Memory.readBytes s.mem 0x1000 64 = some header)
    (hgood : hdrCheck header = .good h hs ch lfsr) (hsize : h.size = 0#16) (hn : 64 ≤ n) :
    frameDone n s
      = .ok { s with
          rxh := h
          part := partRegsOf 0
          codec := { s.codec with blockFail := 0#32, corrHdr := BitVec.ofNat 8 ch, corrPay := 0#16 }
          status := { s.status with payloadOk := true }
          lfsrRx := lfsr
          event := frameEvents s.event } := by
  have hraw : rawSize h.size.toNat = 0 := by rw [hsize]; rfl
  have hpay : payDec [] 0 s.draws = ⟨true, [], 0#32, 0, s.draws⟩ := rfl
  obtain ⟨hdec, hunpack, hlfsr⟩ := hdrCheck_good_inv header h hs ch lfsr hgood
  have hshort : (descramble hs).1.length ≤ 32 := by
    have hle := rsDec_ok_length_le header hs Config.hdrEcc ch hdec
    rwa [readBytes_length _ _ _ _ hread, ← descramble_length] at hle
  rw [frameDone_good n s header [] hs h ch lfsr hread hgood (by rw [hraw]; exact hn) (by rw [hraw]; rfl)]
  simp only [State.setFrameResult, State.setPayResult, hsize, BitVec.toNat_zero, hpay, List.append_nil, Config.hdrLen,
    List.take_of_length_le hshort, hunpack, hlfsr, List.take_zero, Memory.writeBytes]

/-- Settles O46: the pipe's answer in each case, and the work of the frame where it completes one. -/
theorem receivedFrameIsDelivered : Obligations.ReceivedFrameIsDelivered := by
  intro d w p s hrx hs hp hbits
  rw [← flip_eq d p w]
  have hstep := fun t => rxStep_eighthBit_of_rxData d w p s t hrx hs hp hbits
  refine ⟨fun hk hcount => ?insideHeader,
    fun header hk hcount hread => ⟨fun hbad => ?headerFails, fun h hs ch lfsr hgood =>
      ⟨fun hsize => ?headerKnown, fun hsize => ?headerOnly⟩⟩,
    fun hk hcount hrem => ?insidePayload,
    fun header wire hs h ch lfsr hk hcount hrem hread hgood hlen hwire => ?lastByte⟩
  case insideHeader => exact hstep _ (rxByte_open _ _ _ (pipeAdd_insideHeader _ (s.byteReady w) hk hcount) rfl rfl)
  case headerFails =>
    obtain ⟨code, hfail⟩ := exists_failCode header hbad
    exact hstep _ (rxByte_failed _ _ _ code
      (pipeAdd_headerFails _ (s.byteReady w) header code hk (congrArg BitVec.toNat hcount) hread hfail) rfl)
  case headerKnown =>
    exact hstep _ (rxByte_open _ _ _
      (pipeAdd_headerKnown _ (s.byteReady w) header hs h ch lfsr hk (congrArg BitVec.toNat hcount) hread hgood hsize)
      rfl rfl)
  case headerOnly =>
    have hadd := pipeAdd_headerOnly _ (s.byteReady w) header hs h ch lfsr hk (congrArg BitVec.toNat hcount) hread hgood
      hsize
    have hbyte := rxByte_done _ _ _ _ hadd rfl rfl
      (frameDone_headerOnly _ _ header hs h ch lfsr hread hgood hsize le_rfl)
    exact hstep _ hbyte
  case insidePayload =>
    exact hstep _ (rxByte_open _ _ _ (pipeAdd_insidePayload _ (s.byteReady w) hk hcount hrem) rfl rfl)
  case lastByte =>
    have hadd := pipeAdd_lastByte (pushBit s.rx.shift (flip d p w)) (s.byteReady w) hk hcount hrem
    have hbyte := rxByte_done _ _ _ _ hadd rfl rfl
      (frameDone_good _ _ header wire hs h ch lfsr hread hgood hlen.ge hwire)
    exact hstep _ hbyte

end Sys2Proof.Machine
end

section
/-! SUPPORT. How every command completes: with a code RESULT may hold, and from an unchanged state where the code is
contract-class (spec/30_encoding.md R61, spec/60_exceptions.md R143, R144). -/

namespace Sys2Proof.Machine

/-! ### What an execution answers (R143) -/

/-- Whatever the execution answers, RESULT may hold the code, and the state is unchanged where the code is
contract-class. -/
def ListedAnswer (s : State) (e : Execution) : Prop :=
  ∀ code s', e = .ok (code, s') → resultCodeLegal code.value = true ∧ (code.isContract = true → s' = s)

theorem listedAnswer_unchanged (s : State) (code : ResultCode) (hlegal : resultCodeLegal code.value = true) :
    ListedAnswer s (.ok (code, s)) := by
  rintro _ _ ⟨⟩
  exact ⟨hlegal, fun _ => rfl⟩

theorem listedAnswer_written (s s' : State) (code : ResultCode) (hlegal : resultCodeLegal code.value = true)
    (hclass : code.isContract = false) : ListedAnswer s (.ok (code, s')) := by
  rintro _ _ ⟨⟩
  exact ⟨hlegal, fun hcontract => absurd hcontract (ne_true_of_eq_false hclass)⟩

theorem listedAnswer_success (s s' : State) : ListedAnswer s (.ok (.ok, s')) := listedAnswer_written s s' .ok rfl rfl

theorem listedAnswer_withBytes (s : State) (m : Memory) (a n : Nat) (k : List Byte → Execution)
    (hk : ∀ bytes, ListedAnswer s (k bytes)) : ListedAnswer s (withBytes m a n k) := by
  intro code s' h
  obtain ⟨bytes, -, hbytes⟩ := (withBytes_ok _ _ _ _ _).1 h
  exact hk bytes code s' hbytes

theorem listedAnswer_withPacked (s : State) (k : List Byte → Execution) (hk : ListedAnswer s (k (packBytes s.txh))) :
    ListedAnswer s (withPacked s k) := by
  intro code s' h
  obtain ⟨-, heq⟩ | ⟨-, hpacked⟩ := (withPacked_ok _ _ _).1 h
  · cases heq
    exact ⟨rfl, fun _ => rfl⟩
  · exact hk code s' hpacked

/-- A frame decode's late checks leave the state unchanged (R109). -/
theorem listedAnswer_decodeFrameAt (src n dst : Nat) (s : State) : ListedAnswer s (decodeFrameAt src n dst s) := by
  intro code s' h
  obtain ⟨rfl, rfl | rfl | rfl | rfl⟩ | ⟨rfl, -⟩ := decodeFrameAt_ok _ _ _ _ _ _ h
  case inr => exact ⟨rfl, fun hcontract => absurd hcontract (by decide)⟩
  all_goals exact ⟨rfl, fun _ => rfl⟩

/-- PIPE_ADD_BYTE keeps the pipe's writes under a code that is not contract-class (R141). -/
theorem pipeAdd_code_notContract (b : Byte) (s : State) (out : PipeOut) (hout : pipeAdd b s = .ok out) :
    (out.failed.getD .ok).isContract = false := by
  obtain ⟨-, ⟨-, rfl⟩ | ⟨-, -, rfl⟩ | ⟨-, -, header, -, hheader⟩⟩ := pipeAdd_ok b s out hout
  · rw [pipeFinish_failed]; rfl
  · rw [pipeFinish_failed]; rfl
  · obtain ⟨-, rfl⟩ | ⟨-, rfl⟩ | ⟨hdr, hs, ch, lfsr, -, rfl⟩ := hheader
    · rfl
    · rfl
    · rw [pipeFinish_failed]; rfl

/-! ### How a command completes (R61) -/

/-- A command's completion: its code is one RESULT may hold, and a contract-class one completes the state it began
with. -/
def CompletesListed (i : Instr) (s t : State) : Prop :=
  ∃ code s', resultCodeLegal code.value = true ∧ (code.isContract = true → s' = s) ∧ t = s'.complete i.opcode code

/-- A failed check completes the state unchanged, and the execution's answer is a listed one. -/
theorem completesListed_of_runCommand (i : Instr) (checks : List Check) (e : Execution) (s t : State)
    (ht : runCommand i.opcode checks e s = .next t)
    (hcodes : checks.all (fun c => resultCodeLegal c.2.value) = true) (he : ListedAnswer s e) :
    CompletesListed i s t := by
  obtain ⟨code, hfail, rfl⟩ | ⟨-, code, s', hok, rfl⟩ := (runCommand_next _ _ _ _ _).1 ht
  · exact ⟨code, s, List.all_eq_true.1 hcodes _ (firstFailure_eq_some _ _ hfail), fun _ => rfl, rfl⟩
  · obtain ⟨hlegal, hcontract⟩ := he code s' hok
    exact ⟨code, s', hlegal, hcontract, rfl⟩

/-- Every command that answers a next state completes so. -/
theorem exec_completesListed (i : Instr) (s t : State) (ht : exec i s = .next t) : CompletesListed i s t := by
  unfold exec execPipeReset at ht
  cases i
  all_goals refine completesListed_of_runCommand _ _ _ s t ht rfl ?_
  case nop | rawSize | pipeReset | barkerReset | barkerStep => exact listedAnswer_success s _
  case hdrPack => exact listedAnswer_withPacked s _ (listedAnswer_success s _)
  case hdrUnpack | scramble | descramble | rsEncode | hdrEncode | payEncode | payDecode =>
    exact listedAnswer_withBytes s _ _ _ _ fun input => listedAnswer_success s _
  case rsDecode =>
    refine listedAnswer_withBytes s _ _ _ _ fun input => ?_
    split
    · exact listedAnswer_success s _
    · exact listedAnswer_unchanged s .rsFail rfl
  case hdrDecode =>
    refine listedAnswer_withBytes s _ _ _ _ fun input => ?_
    split
    · exact listedAnswer_success s _
    · exact listedAnswer_unchanged s .hdrRsFail rfl
  case encodeFrame =>
    refine listedAnswer_withBytes s _ _ _ _ fun payload => listedAnswer_withPacked s _ ?_
    generalize frameStream (packBytes s.txh) payload = out
    exact listedAnswer_success s _
  case decodeFrame => exact listedAnswer_decodeFrameAt _ _ _ s
  case decodeHeader =>
    refine listedAnswer_withBytes s _ _ _ _ fun header => ?_
    split
    · exact listedAnswer_unchanged s .hdrRsFail rfl
    · exact listedAnswer_unchanged s .hdrSizeFail rfl
    · exact listedAnswer_success s _
  case pipeAddByte b =>
    split
    · rintro _ _ ⟨⟩
    · rename_i out hout
      exact listedAnswer_written s _ _ (pipeAdd_code_legal b s out hout) (pipeAdd_code_notContract b s out hout)

/-! ### The completion's events (R61) -/

/-- Every completion sets CMD_DONE. -/
theorem complete_sets_cmdDone (s : State) (opc : Byte) (code : ResultCode) :
    (s.complete opc code).event.getLsbD 0 = true := by
  simp [complete_event, Ev.cmdDone]

/-- A completion with a code other than OK sets CMD_ERR. -/
theorem complete_sets_cmdErr (s : State) (opc : Byte) (code : ResultCode) (h : code ≠ .ok) :
    (s.complete opc code).event.getLsbD 1 = true := by
  simp [complete_event, h, Ev.cmdErr]

/-- Settles O5: the completion writes the opcode and the code, and the code is one that RESULT may hold. -/
theorem everyCommandReports : Obligations.EveryCommandReports := by
  intro i s t ht
  obtain ⟨code, s', hlegal, -, rfl⟩ := exec_completesListed i s t ht
  rw [complete_result, complete_pending]
  refine ⟨rfl, hlegal, rfl, complete_sets_cmdDone s' _ code, fun hcode => complete_sets_cmdErr s' _ code ?_⟩
  rintro rfl
  exact hcode rfl

/-- Settles O6: a contract-class code completes the state the command began with. -/
theorem contractCodeWritesNothingElse : Obligations.ContractCodeWritesNothingElse := by
  intro i s t ht hclass
  obtain ⟨code, s', -, hunchanged, rfl⟩ := exec_completesListed i s t ht
  rw [complete_result] at hclass ⊢
  have hcontract := (isContract_iff code).2 hclass
  rw [hunchanged hcontract]
  exact complete_contract s i.opcode code hcontract

end Sys2Proof.Machine
end

section
/-! SUPPORT. The fault entry as one record, and the interrupt and the acknowledgement of events bit by bit
(spec/60_exceptions.md R144, R146, spec/10_state.md R24). -/

namespace Sys2Proof.Machine

/-! ### The fault entry (R144) -/

/-- Settles O7: with a fault recorded the entry changes nothing, and else it records the first one. -/
theorem faultEntryRecordsFirst : Obligations.FaultEntryRecordsFirst := by
  refine fun s c origin => ⟨?_, rfl⟩
  cases hfault : s.status.fault with
  | true =>
    have hstatus : { s.status with fault := true } = s.status := by rw [← hfault]
    simp [State.raiseFault, hfault, hstatus]
  | false => simp [State.raiseFault, hfault, Ev.fault]

/-! ### Events and the interrupt (R24, R146) -/

/-- The interrupt is asserted exactly when some event is both pending and enabled. -/
theorem irq_iff (s : State) : s.irq = true ↔ ∃ i < 11, s.event.getLsbD i = true ∧ s.irqEn.getLsbD i = true := by
  simp only [State.irq, bne_iff_ne, ne_eq, BitVec.eq_of_getLsbD_eq_iff, BitVec.getLsbD_and, BitVec.getLsbD_zero,
    Bool.and_eq_false_iff, not_forall, not_or, Bool.not_eq_false, exists_prop]

/-- Writing 1 clears an event, and writing 0 leaves it. -/
theorem ackEvents_event_bit (s : State) (v : Word) (i : Nat) (hi : i < 11) :
    (s.ackEvents v).event.getLsbD i = (s.event.getLsbD i && !v.getLsbD i) := by
  simp [hi]

/-- EVENT is written in every state, busy or not (R155). -/
theorem hostStep_write_event (s : State) (v : Word) : hostStep (.regWr 0x06#8 v) s = .next (s.ackEvents v) := rfl

/-- Settles O57: an acknowledged event is not pending, so no enabled one is left once each has been acknowledged. -/
theorem eventsAndInterrupt : Obligations.EventsAndInterrupt := by
  refine ⟨fun s v => ⟨_, hostStep_write_event s v, ackEvents_event_bit s v⟩, irq_iff, rfl,
    fun s v hacked => ⟨_, hostStep_write_event s v, ?_⟩⟩
  rw [Bool.eq_false_iff, ne_eq, irq_iff, ackEvents_irqEn]
  rintro ⟨i, hi, hevent, henabled⟩
  rw [ackEvents_event_bit s v i hi, hacked i hi henabled] at hevent
  simp at hevent

end Sys2Proof.Machine
end

section
/-! SUPPORT. The RX-owned regions as sets of addresses, and what a command answers while the receiver is enabled: the
hazard of a command that is not RX-safe or stores there, and the receiver's state after any other
(spec/20_memory.md R40, spec/70_reset_and_hazards.md R158, R159). -/

namespace Sys2Proof.Machine

/-! ### The RX-owned regions (R40) -/

/-- The address lies in PAY_RX or FRAME_RX. -/
def RxOwned (a : Nat) : Prop := 0x0400 ≤ a ∧ a < 0x0800 ∨ 0x1000 ≤ a ∧ a < 0x1800

/-- Two regions overlap exactly when they share a byte. -/
theorem regionsOverlap_iff (a n b m : Nat) :
    regionsOverlap a n b m = true ↔ ∃ x, (a ≤ x ∧ x < a + n) ∧ b ≤ x ∧ x < b + m := by
  simp only [regionsOverlap, Bool.and_eq_true, decide_eq_true_eq]
  constructor
  · exact fun h => ⟨max a b, by omega, by omega⟩
  · rintro ⟨x, hx⟩
    omega

theorem touchesRxOwned_iff (a n : Nat) : touchesRxOwned a n = true ↔ ∃ x, a ≤ x ∧ x < a + n ∧ RxOwned x := by
  rw [touchesRxOwned, Bool.or_eq_true, regionsOverlap_iff, regionsOverlap_iff, ← exists_or]
  simp only [← and_or_left, and_assoc]
  rfl

/-- An RX-owned byte lies outside a region that touches none. -/
theorem outsideRegion_of_rxOwned (a : Nat) (r : Nat × Nat) (hfree : touchesRxOwned r.1 r.2 = false) (ha : RxOwned a) :
    outsideRegion a r := by
  by_contra hin
  refine Bool.eq_false_iff.1 hfree ((touchesRxOwned_iff _ _).2 ⟨a, ?_, ?_, ha⟩)
  all_goals
    unfold outsideRegion at hin
    omega

/-- A region of one byte touches the RX-owned regions exactly when the byte lies in one. -/
theorem touchesRxOwned_one_iff (a : Nat) : touchesRxOwned a 1 = true ↔ RxOwned a := by
  rw [touchesRxOwned_iff]
  constructor
  · rintro ⟨x, hle, hlt, hx⟩
    obtain rfl : a = x := by omega
    exact hx
  · exact fun ha => ⟨a, Nat.le_refl a, Nat.lt_succ_self a, ha⟩

/-! ### The hazard checks that fail (R62, R158) -/

theorem destHazardCheck_of_owned (s : State) (n : Nat) (hrx : s.rxEn = true) (h : touchesRxOwned s.dst n = true) :
    destHazardCheck s s.dst n = (true, .eHazard) := by
  rw [destHazardCheck, hrx, h]
  rfl

/-- A destination inside the buffer and in an RX-owned region gives E_HAZARD as the last check (R62 step 5). -/
theorem firstFailure_dest_owned (s : State) (n : Nat) (hrx : s.rxEn = true) (howned : touchesRxOwned s.dst n = true)
    (hdst : s.dst + n ≤ 8192) : firstFailure [rangeCheck s.dst n, destHazardCheck s s.dst n] = some .eHazard := by
  rw [rangeCheck_of_le s.dst n hdst, destHazardCheck_of_owned s n hrx howned]
  rfl

theorem firstFailure_ranges_of_owned (s : State) (a n m : Nat) (hrx : s.rxEn = true)
    (howned : touchesRxOwned s.dst m = true) (hsrc : a + n ≤ 8192) (hdst : s.dst + m ≤ 8192) :
    firstFailure [rangeCheck a n, rangeCheck s.dst m, destHazardCheck s s.dst m] = some .eHazard := by
  rw [rangeCheck_of_le a n hsrc]
  exact firstFailure_dest_owned s m hrx howned hdst

/-- A command whose first failing check is a hazard check. -/
theorem runCommand_eHazard (opc : Byte) (checks : List Check) (e : Execution) (s : State)
    (hfail : firstFailure checks = some .eHazard) : runCommand opc checks e s = .next (contractDone opc 0x15#8 s) :=
  runCommand_contract opc checks e s .eHazard hfail rfl

/-- Every well-formed command that is not RX-safe is turned away while the receiver is enabled (R158). -/
theorem exec_notRxSafe (i : Instr) (s : State) (hwf : i.wf = true) (hsafe : rxSafe i = false) (hrx : s.rxEn = true) :
    exec i s = .next (contractDone i.opcode 0x15#8 s) := by
  unfold exec execPipeReset
  cases i with
  | nop | hdrPack | scramble | rsEncode | hdrEncode | payEncode | encodeFrame => cases hsafe
  | barkerStep b =>
    have himm : Format.cb.immOk b = true := hwf
    refine runCommand_eHazard _ _ _ s ?_
    rw [himm, hazardCheck_of_enabled s hrx]
    rfl
  | _ =>
    refine runCommand_eHazard _ _ _ s ?_
    rw [hazardCheck_of_enabled s hrx]
    rfl

/-- Settles O21: a command that is not RX-safe fails its hazard check, and for each RX-safe one the checks before its
destination's hazard check pass, and that one fails. -/
theorem receiveHazards : Obligations.ReceiveHazards := by
  refine ⟨touchesRxOwned_iff, exec_notRxSafe, fun s hrx howned hdst hhops => ?hdrPack,
    fun s hrx howned hsrc hdst => ?scramble, fun s hrx howned hlen hnsym hmax hsrc hdst => ?rsEncode,
    fun s hrx howned hsrc hdst => ?hdrEncode, fun s hrx howned hsize hsrc hdst => ?payEncode,
    fun s hrx howned hhops hsize hsrc hdst => ?encodeFrame⟩
  all_goals refine runCommand_eHazard _ _ _ s ?_
  case hdrPack =>
    rw [hopsBad_eq_false s.txh hhops]
    exact firstFailure_dest_owned s _ hrx howned hdst
  case scramble | hdrEncode => exact firstFailure_ranges_of_owned s _ _ _ hrx howned hsrc hdst
  case rsEncode =>
    rw [rsEncodeParamsBad_eq_false _ _ hlen hnsym hmax]
    exact firstFailure_ranges_of_owned s _ _ _ hrx howned hsrc hdst
  case payEncode =>
    rw [hsize]
    exact firstFailure_ranges_of_owned s _ _ _ hrx howned hsrc hdst
  case encodeFrame =>
    rw [hopsBad_eq_false s.txh hhops, hsize]
    exact firstFailure_ranges_of_owned s _ _ _ hrx howned hsrc hdst

/-! ### The receiver after a command (R158, R159) -/

/-- A command with a hazard check among its checks either only completes, or the hazard is absent. -/
theorem runCommand_guarded (opc : Byte) (checks : List Check) (e : Execution) (s t : State) (hazard : Bool)
    (hmem : (hazard, .eHazard) ∈ checks) (ht : runCommand opc checks e s = .next t) :
    (∃ code, t = s.complete opc code) ∨ hazard = false := by
  obtain ⟨code, -, rfl⟩ | ⟨hpass, -⟩ := (runCommand_next _ _ _ _ _).1 ht
  · exact .inl ⟨code, rfl⟩
  · exact .inr ((firstFailure_eq_none checks).1 hpass _ hmem)

/-- While the receiver is enabled a command either only completes, or it is RX-safe and its output region is free of
RX-owned bytes. -/
theorem exec_while_enabled (i : Instr) (s t : State) (hrx : s.rxEn = true) (ht : exec i s = .next t) :
    (∃ code, t = s.complete i.opcode code)
      ∨ rxSafe i = true ∧ touchesRxOwned (storeRegion i s).1 (storeRegion i s).2 = false := by
  unfold exec execPipeReset at ht
  cases i with
  | nop => exact .inr ⟨rfl, rfl⟩
  | hdrPack | scramble | rsEncode | hdrEncode | payEncode | encodeFrame =>
    refine (runCommand_guarded _ _ _ s t _ (List.mem_of_getLast? rfl) ht).imp_right fun hfree => ⟨rfl, ?_⟩
    rwa [hrx, Bool.true_and] at hfree
  | barkerStep b =>
    exact .inl ((runCommand_guarded _ _ _ s t s.rxEn (.tail _ (.head _)) ht).resolve_right (ne_false_of_eq_true hrx))
  | _ => exact .inl ((runCommand_guarded _ _ _ s t s.rxEn (.head _) ht).resolve_right (ne_false_of_eq_true hrx))

/-- The registers and the hidden state of the receiver are the same, and of the STATUS flags at most FAULT differs. -/
def SameReceiver (s t : State) : Prop :=
  t.rxEn = s.rxEn ∧ t.rx = s.rx ∧ t.prev = s.prev ∧ t.pipe = s.pipe ∧ t.rxh = s.rxh ∧ t.part = s.part
    ∧ t.codec = s.codec ∧ t.lfsrRx = s.lfsrRx ∧ t.cfg = s.cfg ∧ t.status = { s.status with fault := t.status.fault }

theorem sameReceiver_refl (s : State) : SameReceiver s s := ⟨rfl, rfl, rfl, rfl, rfl, rfl, rfl, rfl, rfl, rfl⟩

/-- The effect of an RX-safe command is on the transmit side. -/
theorem effect_sameReceiver (s s' : State) (i : Instr) (h : Effect s i s') (hsafe : rxSafe i = true) :
    SameReceiver s s' := by
  cases h with
  | unchanged | store | scramble | encodeFrame => exact ⟨rfl, rfl, rfl, rfl, rfl, rfl, rfl, rfl, rfl, rfl⟩
  | _ => cases hsafe

theorem complete_status (s : State) (o : Byte) (c : ResultCode) :
    (s.complete o c).status = { s.status with fault := (s.complete o c).status.fault } := by
  rw [Status.mk.injEq]
  exact ⟨rfl, complete_status_payloadOk s o c, complete_status_pipeHdrKnown s o c, complete_status_barkerFound s o c,
    complete_status_pipeDone s o c⟩

/-- A completion writes no register of the receiver. -/
theorem sameReceiver_complete (s s' : State) (o : Byte) (c : ResultCode) (h : SameReceiver s s') :
    SameReceiver s (s'.complete o c) := by
  obtain ⟨hen, hrx, hprev, hpipe, hrxh, hpart, hcodec, hlfsr, hcfg, hstatus⟩ := h
  simp only [SameReceiver, complete_rxEn, complete_rx, complete_prev, complete_pipe, complete_rxh, complete_part,
    complete_codec, complete_lfsrRx, complete_cfg]
  refine ⟨hen, hrx, hprev, hpipe, hrxh, hpart, hcodec, hlfsr, hcfg, ?_⟩
  rw [complete_status s' o c, hstatus]

/-- Settles O50: a command that is turned away only completes, and any other is RX-safe, so its effect is on the
transmit side and its stores lie outside the RX-owned regions. -/
theorem commandsDoNotDisturbReceiver : Obligations.CommandsDoNotDisturbReceiver := by
  intro i s t hrx ht
  suffices h : SameReceiver s t ∧ ∀ a, RxOwned a → Memory.read t.mem a = Memory.read s.mem a by
    obtain ⟨⟨hen, hregs⟩, hmem⟩ := h
    exact ⟨⟨hen.trans hrx, hregs⟩, hmem⟩
  obtain ⟨code, rfl⟩ | ⟨hsafe, hfree⟩ := exec_while_enabled i s t hrx ht
  · exact ⟨sameReceiver_complete s s _ code (sameReceiver_refl s), fun a _ => by rw [complete_mem]⟩
  · refine ⟨?_, fun a ha => commandMemoryFrame i s t ht a (outsideRegion_of_rxOwned a _ hfree ha)⟩
    obtain ⟨code, s', heffect, rfl⟩ := exec_effect i s t ht
    exact sameReceiver_complete s s' _ code (effect_sameReceiver s s' i heffect hsafe)

end Sys2Proof.Machine
end

section
/-! SUPPORT. The state after power-on reset, the two resets a CTRL write performs, and the host's buffer writes with
their hazard (spec/70_reset_and_hazards.md R152, R153, R157, spec/20_memory.md R42). -/

namespace Sys2Proof.Machine

/-! ### Power-on reset (R152) -/

/-- Settles O58: the reset state is the base case of the invariant. -/
theorem invariantAtReset : Obligations.InvariantAtReset := inv_reset

/-- No index of an implemented register is reserved. -/
theorem ne_index_of_reserved (i : BitVec 8) (h : regAt i = none) (r : Reg) : i ≠ r.index := by
  rintro rfl
  rw [regAt_index] at h
  cases h

/-- Settles O51: a reserved index is none of the ten with a reset value, and every register is read at its own. -/
theorem resetLeavesTheseValues : Obligations.ResetLeavesTheseValues := by
  refine ⟨fun i => ?_, rfl, rfl, rfl, fun _ => rfl⟩
  unfold State.indexWord
  cases hr : regAt i with
  | none =>
    have hne := ne_index_of_reserved i hr
    rw [if_neg (show i ≠ 0x00#8 from hne .id), if_neg (show i ≠ 0x01#8 from hne .version),
      if_neg (show i ≠ 0x3C#8 from hne .lfsrTx), if_neg (show i ≠ 0x3D#8 from hne .lfsrRx),
      if_neg (show i ≠ 0x50#8 from hne .cfgCohThresh), if_neg (show i ≠ 0x51#8 from hne .cfgCarrierThreshold),
      if_neg (show i ≠ 0x52#8 from hne .cfgMaxOffset), if_neg (show i ≠ 0x53#8 from hne .cfgBarkerMax),
      if_neg (show i ≠ 0x54#8 from hne .cfgSepSymbols), if_neg (show i ≠ 0x55#8 from hne .cfgGainSkip)]
  | some r =>
    obtain rfl := index_of_regAt i r hr
    cases r with
    | txh hdr | rxh hdr => cases hdr <;> rfl
    | _ => rfl

/-! ### CTRL (R20, R125, R153) -/

theorem writeCtrl_idle (v : Word) (s : State) (hv : v.getLsbD 1 = false) (hp : s.pending = none) :
    writeCtrl v s = s.writeRxEn (v.getLsbD 0) := by
  rw [writeCtrl, if_neg (ne_true_of_eq_false hv), State.busy, hp]
  rfl

theorem writeRxEn_same (s : State) : s.writeRxEn s.rxEn = s := if_pos rfl

/-- A change of RX_EN, either way, resets the agent in the same step (R125). -/
theorem writeRxEn_change (s : State) (on : Bool) (h : on ≠ s.rxEn) : s.writeRxEn on = { s.rxReset with rxEn := on } :=
  if_neg h

/-- Settles O52: SOFT_RESET wins in every state, and else the write is RX_EN's. -/
theorem ctrlWrites : Obligations.CtrlWrites := by
  refine ⟨fun s v hv => congrArg _ (writeCtrl_softReset v s hv), fun s v hv hp => ⟨fun hchange => ?_, fun hsame => ?_⟩⟩
  · exact congrArg _ ((writeCtrl_idle v s hv hp).trans (writeRxEn_change s _ hchange))
  · exact congrArg _ ((writeCtrl_idle v s hv hp).trans (hsame ▸ writeRxEn_same s))

/-! ### The host's writes and the RX-owned state (R42, R157) -/

/-- With nothing pending a BUF_WR is accepted, but for RX-owned bytes while the receiver is enabled. -/
theorem bufWrite_accepted (a : BitVec 13) (b : Byte) (s : State) (hp : s.pending = none)
    (hfree : s.rxEn = false ∨ ¬RxOwned a.toNat) : bufWrite a b s = { s with mem := Memory.write s.mem a.toNat b } := by
  have hnone : ¬(s.rxEn && touchesRxOwned a.toNat 1) = true := by
    rw [Bool.and_eq_true, touchesRxOwned_one_iff]
    rintro ⟨hrx, howned⟩
    obtain hoff | hout := hfree
    · exact ne_false_of_eq_true hrx hoff
    · exact hout howned
  simp [bufWrite, State.busy, hp, hnone]

/-- Into an RX-owned region it is the bus fault E_HAZARD. -/
theorem bufWrite_owned (a : BitVec 13) (b : Byte) (s : State) (hp : s.pending = none) (hrx : s.rxEn = true)
    (howned : RxOwned a.toNat) : bufWrite a b s = busFaultDone 0x15#8 s := by
  have htouch := (touchesRxOwned_one_iff a.toNat).2 howned
  simp [bufWrite, State.busy, hp, hrx, htouch, busFault_eq, ResultCode.value]

/-- The indices 0x50 to 0x55 are the configuration registers' (R35). -/
theorem regAt_cfg (i : BitVec 8) (hlo : 0x50#8 ≤ i) (hhi : i ≤ 0x55#8) : ∃ r, regAt i = some r ∧ isCfg r = true := by
  obtain rfl | rfl | rfl | rfl | rfl | rfl :
      i = 0x50#8 ∨ i = 0x51#8 ∨ i = 0x52#8 ∨ i = 0x53#8 ∨ i = 0x54#8 ∨ i = 0x55#8 := by bv_omega
  all_goals exact ⟨_, rfl, rfl⟩

/-- A write to a configuration register while the receiver is enabled is the bus fault E_HAZARD. -/
theorem writePlain_cfg_owned (r : Reg) (v : Word) (s : State) (hp : s.pending = none) (hrx : s.rxEn = true)
    (hcfg : isCfg r = true) : writePlain (some r) v s = busFaultDone 0x15#8 s := by
  simp [writePlain, State.busy, hp, hrx, hcfg, busFault_eq, ResultCode.value]

/-- Settles O56: an accepted BUF_WR writes one byte, and the RX-owned bytes and registers give the bus fault. -/
theorem hostBufferWrites : Obligations.HostBufferWrites := by
  refine ⟨fun s a b hp hfree => ?accepted, fun s a b hp hrx howned => ?owned, fun s i v hp hrx hlo hhi => ?cfg⟩
  case accepted =>
    refine ⟨Memory.write s.mem a.toNat b, congrArg _ (bufWrite_accepted a b s hp (hfree.imp_right not_or.2)),
      read_write_same _ _ _, fun x hx => read_write_other _ _ _ _ hx⟩
  case owned => exact congrArg _ (bufWrite_owned a b s hp hrx howned)
  case cfg =>
    obtain ⟨r, hr, hcfg⟩ := regAt_cfg i hlo hhi
    have hplain : i ∉ ownWriteIndices := fun hown =>
      absurd hlo ((by decide : ∀ j ∈ ownWriteIndices, ¬0x50#8 ≤ j) i hown)
    refine congrArg _ ((regWrite_plain i v s hplain).trans ?_)
    rw [hr]
    exact writePlain_cfg_owned r v s hp hrx hcfg

end Sys2Proof.Machine
end
